-- ==== Sys2Proof/Word.lean ====
section
/-! DEFINITION. The word types of R1B-MC (00_scope.md R6, R7): every register is 32 bits, an input word
is 51 bits, a register index is 8 bits, and there are two wheels. -/

namespace Sys2Proof

/-- The 32-bit pattern every register holds (00_scope.md R6, R7). -/
abbrev Word := BitVec 32

/-- One clock cycle's input pins, as the 51-bit input word `I` (30_encoding.md R80). -/
abbrev InputWord := BitVec 51

/-- The 8-bit word index of the register port (00_scope.md R6, 20_memory.md R60). -/
abbrev RegIndex := BitVec 8

/-- The two wheel channels: index `w = 0` is the left wheel, `w = 1` the right (00_scope.md R6). -/
inductive Wheel where
  | left
  | right
deriving DecidableEq, Repr, Inhabited

end Sys2Proof
end

