-- ==== Sys2Proof/Syntax.lean ====
section
/-! DEFINITION. The operations of R1B-MC: one constructor per row of spec/opcode_table.json
(00_scope.md R17, 30_encoding.md R88). Bits that a row calls ignored are no operands. -/

namespace Sys2Proof

/-- The operations. A quadrature transition code carries the wheel whose code it is (30_encoding.md
R82: one code per wheel); its four level bits are in its name, old `A`, old `B`, new `A`, new `B`. -/
inductive Instr where
  -- quadrature transition codes, 40_qdec.md R103 to R112
  | qnop0000 (w : Wheel)
  | qnop0101 (w : Wheel)
  | qnop1010 (w : Wheel)
  | qnop1111 (w : Wheel)
  | qaR0 (w : Wheel)
  | qaR1 (w : Wheel)
  | qaF0 (w : Wheel)
  | qaF1 (w : Wheel)
  | qbR0 (w : Wheel)
  | qbR1 (w : Wheel)
  | qbF0 (w : Wheel)
  | qbF1 (w : Wheel)
  | qdbl0011 (w : Wheel)
  | qdbl0110 (w : Wheel)
  | qdbl1001 (w : Wheel)
  | qdbl1100 (w : Wheel)
  -- reset, with the encoder pin levels of the reset cycle, 70_reset_and_hazards.md R200
  | reset (a0 b0 a1 b1 : Bool)
  -- sample and control ticks, 41_vest.md R120, 42_pid.md R130
  | stick0
  | stick1
  | ctick0
  | ctick1
  -- register reads, 44_sys.md R161
  | rdCount0
  | rdQstat0
  | rdPrevCount0
  | rdAngVel0
  | rdLinVel0
  | rdKAng0
  | rdRadius0
  | rdSetpoint0
  | rdError0
  | rdPrevErr0
  | rdIntegral0
  | rdDuty0
  | rdTicks0
  | rdFC0
  | rdKp0
  | rdKi0
  | rdKd0
  | rdPstat0
  | rdMotDuty0
  | rdCount1
  | rdQstat1
  | rdPrevCount1
  | rdAngVel1
  | rdLinVel1
  | rdKAng1
  | rdRadius1
  | rdSetpoint1
  | rdError1
  | rdPrevErr1
  | rdIntegral1
  | rdDuty1
  | rdTicks1
  | rdFC1
  | rdKp1
  | rdKi1
  | rdKd1
  | rdPstat1
  | rdMotDuty1
  | rdCmdLin
  | rdCmdAng
  | rdTrack
  | rdBodyLin
  | rdBodyAng
  | rdGstat
  | rdZero (a : RegIndex)
  -- plain stores, 44_sys.md R163
  | wrKAng0 (v : Word)
  | wrRadius0 (v : Word)
  | wrFC0 (v : Word)
  | wrKp0 (v : Word)
  | wrKi0 (v : Word)
  | wrKd0 (v : Word)
  | wrKAng1 (v : Word)
  | wrRadius1 (v : Word)
  | wrFC1 (v : Word)
  | wrKp1 (v : Word)
  | wrKi1 (v : Word)
  | wrKd1 (v : Word)
  | wrCmdLin (v : Word)
  | wrCmdAng (v : Word)
  | wrTrack (v : Word)
  -- setpoint writes, 42_pid.md R138
  | wrSetpoint0 (v : Word)
  | wrSetpoint1 (v : Word)
  -- commands, 44_sys.md R164
  | nop
  | kinSet
  | kinGet
  | enable
  | disable
  | qrst0
  | qrst1
  | wrCmdReserved (code : BitVec 8)
  -- a write to a read-only or unmapped index, 30_encoding.md R89
  | wrIgnored (a : RegIndex) (v : Word)
  -- no bus operation, 30_encoding.md R81
  | noBus
deriving DecidableEq, Repr

end Sys2Proof
end

