-- ==== Sys2Proof/WellFormed.lean ====
section
/-! DEFINITION. Which operations a pattern of input bits selects: the three catch-all rows of the opcode
table take only the operands that no earlier row takes (30_encoding.md R88 to R90). -/

namespace Sys2Proof

/-- Indices a read of which returns 0: `CMD` and the unmapped ones (20_memory.md R68, 44_sys.md R161). -/
def readsZero (a : RegIndex) : Bool :=
  let n := a.toNat
  n == 0x40 || (0x13 ≤ n && n ≤ 0x1F) || (0x33 ≤ n && n ≤ 0x3F) || 0x47 ≤ n

/-- Indices a write to which changes nothing: read-only and unmapped ones (30_encoding.md R89). -/
def writeIgnored (a : RegIndex) : Bool :=
  let n := a.toNat
  n ≤ 0x04 || (0x08 ≤ n && n ≤ 0x0C) || (0x11 ≤ n && n ≤ 0x24) || (0x28 ≤ n && n ≤ 0x2C)
    || (0x31 ≤ n && n ≤ 0x3F) || 0x44 ≤ n

/-- Command codes reserved by 30_encoding.md R90. -/
def reservedCode (c : BitVec 8) : Bool := 0x07 ≤ c.toNat

/-- The operands of the catch-all rows lie where no earlier row of their group matches; every other
operation is well-formed at every operand. -/
def Instr.wellFormed : Instr → Bool
  | .rdZero a => readsZero a
  | .wrIgnored a _ => writeIgnored a
  | .wrCmdReserved c => reservedCode c
  | _ => true

/-- `wellFormed` as a proposition that `decide` settles. -/
abbrev Instr.WellFormed (i : Instr) : Prop := i.wellFormed = true

end Sys2Proof
end

