-- ==== Sys2Proof/Decode.lean ====
section
/-! DEFINITION. The input word and the transition code (30_encoding.md R80, R82), the decoder (R88) and,
after it, the encoder. Every 4-bit code and every 51-bit word is an operation; only a pattern of another
width is rejected. -/

namespace Sys2Proof

/-- The fields of the input word (30_encoding.md R80). -/
structure Input where
  rst : Bool
  encB1 : Bool
  encA1 : Bool
  encB0 : Bool
  encA0 : Bool
  ctick1 : Bool
  ctick0 : Bool
  stick1 : Bool
  stick0 : Bool
  busReq : Bool
  busWe : Bool
  busAddr : RegIndex
  busWdata : Word
deriving DecidableEq, Repr

/-- The fields of an input word, at the bit positions of 30_encoding.md R80. -/
def Input.ofWord (i : InputWord) : Input where
  rst := i.getLsbD 50
  encB1 := i.getLsbD 49
  encA1 := i.getLsbD 48
  encB0 := i.getLsbD 47
  encA0 := i.getLsbD 46
  ctick1 := i.getLsbD 45
  ctick0 := i.getLsbD 44
  stick1 := i.getLsbD 43
  stick0 := i.getLsbD 42
  busReq := i.getLsbD 41
  busWe := i.getLsbD 40
  busAddr := i.extractLsb' 32 8
  busWdata := i.extractLsb' 0 32

/-- The transition code `QT = A_Q, B_Q, enc_a, enc_b`, bit 3 down to bit 0 (30_encoding.md R82). -/
def transitionCode (aQ bQ a b : Bool) : BitVec 4 :=
  BitVec.ofBool aQ ++ BitVec.ofBool bQ ++ BitVec.ofBool a ++ BitVec.ofBool b

/-- The operation a wheel's transition code selects (30_encoding.md R88, format `QT`). -/
def decodeTransition (w : Wheel) (c : BitVec 4) : Instr :=
  match c.toNat with
  | 0b0000 => .qnop0000 w
  | 0b0101 => .qnop0101 w
  | 0b1010 => .qnop1010 w
  | 0b1111 => .qnop1111 w
  | 0b0010 => .qaR0 w
  | 0b0111 => .qaR1 w
  | 0b1000 => .qaF0 w
  | 0b1101 => .qaF1 w
  | 0b0001 => .qbR0 w
  | 0b1011 => .qbR1 w
  | 0b0100 => .qbF0 w
  | 0b1110 => .qbF1 w
  | 0b0011 => .qdbl0011 w
  | 0b0110 => .qdbl0110 w
  | 0b1001 => .qdbl1001 w
  | _ => .qdbl1100 w

/-- The operation a register read selects (30_encoding.md R88, 44_sys.md R161). -/
def decodeRead (a : RegIndex) : Instr :=
  match a.toNat with
  | 0x00 => .rdCount0
  | 0x01 => .rdQstat0
  | 0x02 => .rdPrevCount0
  | 0x03 => .rdAngVel0
  | 0x04 => .rdLinVel0
  | 0x05 => .rdKAng0
  | 0x06 => .rdRadius0
  | 0x07 => .rdSetpoint0
  | 0x08 => .rdError0
  | 0x09 => .rdPrevErr0
  | 0x0A => .rdIntegral0
  | 0x0B => .rdDuty0
  | 0x0C => .rdTicks0
  | 0x0D => .rdFC0
  | 0x0E => .rdKp0
  | 0x0F => .rdKi0
  | 0x10 => .rdKd0
  | 0x11 => .rdPstat0
  | 0x12 => .rdMotDuty0
  | 0x20 => .rdCount1
  | 0x21 => .rdQstat1
  | 0x22 => .rdPrevCount1
  | 0x23 => .rdAngVel1
  | 0x24 => .rdLinVel1
  | 0x25 => .rdKAng1
  | 0x26 => .rdRadius1
  | 0x27 => .rdSetpoint1
  | 0x28 => .rdError1
  | 0x29 => .rdPrevErr1
  | 0x2A => .rdIntegral1
  | 0x2B => .rdDuty1
  | 0x2C => .rdTicks1
  | 0x2D => .rdFC1
  | 0x2E => .rdKp1
  | 0x2F => .rdKi1
  | 0x30 => .rdKd1
  | 0x31 => .rdPstat1
  | 0x32 => .rdMotDuty1
  | 0x41 => .rdCmdLin
  | 0x42 => .rdCmdAng
  | 0x43 => .rdTrack
  | 0x44 => .rdBodyLin
  | 0x45 => .rdBodyAng
  | 0x46 => .rdGstat
  | _ => .rdZero a

/-- The operation a command code selects (30_encoding.md R83). -/
def decodeCommand (c : BitVec 8) : Instr :=
  match c.toNat with
  | 0x00 => .nop
  | 0x01 => .kinSet
  | 0x02 => .kinGet
  | 0x03 => .enable
  | 0x04 => .disable
  | 0x05 => .qrst0
  | 0x06 => .qrst1
  | _ => .wrCmdReserved c

/-- The operation a register write selects (30_encoding.md R88, 44_sys.md R162); a command's bits 31:8
are ignored (R83). -/
def decodeWrite (a : RegIndex) (v : Word) : Instr :=
  match a.toNat with
  | 0x05 => .wrKAng0 v
  | 0x06 => .wrRadius0 v
  | 0x0D => .wrFC0 v
  | 0x0E => .wrKp0 v
  | 0x0F => .wrKi0 v
  | 0x10 => .wrKd0 v
  | 0x25 => .wrKAng1 v
  | 0x26 => .wrRadius1 v
  | 0x2D => .wrFC1 v
  | 0x2E => .wrKp1 v
  | 0x2F => .wrKi1 v
  | 0x30 => .wrKd1 v
  | 0x41 => .wrCmdLin v
  | 0x42 => .wrCmdAng v
  | 0x43 => .wrTrack v
  | 0x07 => .wrSetpoint0 v
  | 0x27 => .wrSetpoint1 v
  | 0x40 => decodeCommand (v.setWidth 8)
  | _ => .wrIgnored a v

/-- The one operation of the bus group that a cycle selects (30_encoding.md R81, R88). -/
def decodeBus (p : Input) : Instr :=
  if p.busReq then
    if p.busWe then decodeWrite p.busAddr p.busWdata else decodeRead p.busAddr
  else .noBus

/-- All operations a cycle selects, in the order of 20_memory.md R70: `RESET` alone, or the transitions of
both wheels, the bus operation, the sample ticks, the control ticks. `q0` and `q1` are the two wheels'
transition codes. -/
def decodeCycle (q0 q1 : BitVec 4) (p : Input) : List Instr :=
  if p.rst then [.reset p.encA0 p.encB0 p.encA1 p.encB1]
  else
    [decodeTransition .left q0, decodeTransition .right q1, decodeBus p]
      ++ (if p.stick0 then [.stick0] else []) ++ (if p.stick1 then [.stick1] else [])
      ++ (if p.ctick0 then [.ctick0] else []) ++ (if p.ctick1 then [.ctick1] else [])

/-- The one operation by which a single input word is named: `RESET`, else the bus operation if there is a
request, else the lowest tick, else no bus operation. DESIGN CHOICE (log 6): a word may select several
operations, and `decodeCycle` gives them all. -/
def decodeInput (p : Input) : Instr :=
  if p.rst then .reset p.encA0 p.encB0 p.encA1 p.encB1
  else if p.busReq then decodeBus p
  else if p.stick0 then .stick0
  else if p.stick1 then .stick1
  else if p.ctick0 then .ctick0
  else if p.ctick1 then .ctick1
  else .noBus

/-- The two formats of 30_encoding.md section 1: a wheel's 4-bit transition code, or a 51-bit input word. -/
inductive Code where
  | qt (w : Wheel) (c : BitVec 4)
  | input (i : InputWord)
deriving DecidableEq, Repr

/-- The operation a code selects. -/
def decode : Code → Instr
  | .qt w c => decodeTransition w c
  | .input i => decodeInput (Input.ofWord i)

/-- Why a pattern of bits is no operation: the formats are 4 and 51 bits wide (30_encoding.md section 1). -/
inductive DecodeError where
  | transitionWiderThanFourBits
  | inputWiderThan51Bits
deriving DecidableEq, Repr

/-- Decoding a numbered pattern of at most `nbits` bits: up to one byte is a transition code, of the left
wheel (log 7); more is an input word. -/
def decodeBits (nbits w : Nat) : Except DecodeError Instr :=
  if nbits ≤ 8 then
    if w < 2 ^ 4 then .ok (decode (.qt .left (BitVec.ofNat 4 w))) else .error .transitionWiderThanFourBits
  else
    if w < 2 ^ 51 then .ok (decode (.input (BitVec.ofNat 51 w))) else .error .inputWiderThan51Bits

/-- The decoder as the opcode table numbers its bits. -/
def decodeTableWord (nbits w : Nat) : Option Instr :=
  (decodeBits nbits w).toOption

/-! The encoder. -/

/-- One pin's level at bit `k` of an input word. -/
def pinAt (b : Bool) (k : Nat) : InputWord := (BitVec.ofBool b).setWidth 51 <<< k

/-- The input word of the fields, at the bit positions of 30_encoding.md R80. -/
def Input.toWord (p : Input) : InputWord :=
  pinAt p.rst 50 ||| pinAt p.encB1 49 ||| pinAt p.encA1 48 ||| pinAt p.encB0 47 ||| pinAt p.encA0 46
    ||| pinAt p.ctick1 45 ||| pinAt p.ctick0 44 ||| pinAt p.stick1 43 ||| pinAt p.stick0 42
    ||| pinAt p.busReq 41 ||| pinAt p.busWe 40
    ||| p.busAddr.setWidth 51 <<< 32 ||| p.busWdata.setWidth 51

/-- The empty cycle: every strobe 0 and the encoder pins low (30_encoding.md R93 `IDLE`). -/
def Input.idle : Input where
  rst := false
  encB1 := false
  encA1 := false
  encB0 := false
  encA0 := false
  ctick1 := false
  ctick0 := false
  stick1 := false
  stick0 := false
  busReq := false
  busWe := false
  busAddr := 0
  busWdata := 0

/-- `RD a` alone in a cycle (30_encoding.md R93). -/
def Input.read (a : RegIndex) : InputWord :=
  ({ Input.idle with busReq := true, busAddr := a }).toWord

/-- `WR a, v` alone in a cycle (30_encoding.md R93). -/
def Input.write (a : RegIndex) (v : Word) : InputWord :=
  ({ Input.idle with busReq := true, busWe := true, busAddr := a, busWdata := v }).toWord

/-- The code of an operation, written from 30_encoding.md R83 and R88, every bit its row does not name 0. -/
def encode : Instr → Code
  | .qnop0000 w => .qt w 0b0000#4
  | .qnop0101 w => .qt w 0b0101#4
  | .qnop1010 w => .qt w 0b1010#4
  | .qnop1111 w => .qt w 0b1111#4
  | .qaR0 w => .qt w 0b0010#4
  | .qaR1 w => .qt w 0b0111#4
  | .qaF0 w => .qt w 0b1000#4
  | .qaF1 w => .qt w 0b1101#4
  | .qbR0 w => .qt w 0b0001#4
  | .qbR1 w => .qt w 0b1011#4
  | .qbF0 w => .qt w 0b0100#4
  | .qbF1 w => .qt w 0b1110#4
  | .qdbl0011 w => .qt w 0b0011#4
  | .qdbl0110 w => .qt w 0b0110#4
  | .qdbl1001 w => .qt w 0b1001#4
  | .qdbl1100 w => .qt w 0b1100#4
  | .reset a0 b0 a1 b1 =>
    .input ({ Input.idle with rst := true, encA0 := a0, encB0 := b0, encA1 := a1, encB1 := b1 }).toWord
  | .stick0 => .input ({ Input.idle with stick0 := true }).toWord
  | .stick1 => .input ({ Input.idle with stick1 := true }).toWord
  | .ctick0 => .input ({ Input.idle with ctick0 := true }).toWord
  | .ctick1 => .input ({ Input.idle with ctick1 := true }).toWord
  | .rdCount0 => .input (Input.read 0x00#8)
  | .rdQstat0 => .input (Input.read 0x01#8)
  | .rdPrevCount0 => .input (Input.read 0x02#8)
  | .rdAngVel0 => .input (Input.read 0x03#8)
  | .rdLinVel0 => .input (Input.read 0x04#8)
  | .rdKAng0 => .input (Input.read 0x05#8)
  | .rdRadius0 => .input (Input.read 0x06#8)
  | .rdSetpoint0 => .input (Input.read 0x07#8)
  | .rdError0 => .input (Input.read 0x08#8)
  | .rdPrevErr0 => .input (Input.read 0x09#8)
  | .rdIntegral0 => .input (Input.read 0x0A#8)
  | .rdDuty0 => .input (Input.read 0x0B#8)
  | .rdTicks0 => .input (Input.read 0x0C#8)
  | .rdFC0 => .input (Input.read 0x0D#8)
  | .rdKp0 => .input (Input.read 0x0E#8)
  | .rdKi0 => .input (Input.read 0x0F#8)
  | .rdKd0 => .input (Input.read 0x10#8)
  | .rdPstat0 => .input (Input.read 0x11#8)
  | .rdMotDuty0 => .input (Input.read 0x12#8)
  | .rdCount1 => .input (Input.read 0x20#8)
  | .rdQstat1 => .input (Input.read 0x21#8)
  | .rdPrevCount1 => .input (Input.read 0x22#8)
  | .rdAngVel1 => .input (Input.read 0x23#8)
  | .rdLinVel1 => .input (Input.read 0x24#8)
  | .rdKAng1 => .input (Input.read 0x25#8)
  | .rdRadius1 => .input (Input.read 0x26#8)
  | .rdSetpoint1 => .input (Input.read 0x27#8)
  | .rdError1 => .input (Input.read 0x28#8)
  | .rdPrevErr1 => .input (Input.read 0x29#8)
  | .rdIntegral1 => .input (Input.read 0x2A#8)
  | .rdDuty1 => .input (Input.read 0x2B#8)
  | .rdTicks1 => .input (Input.read 0x2C#8)
  | .rdFC1 => .input (Input.read 0x2D#8)
  | .rdKp1 => .input (Input.read 0x2E#8)
  | .rdKi1 => .input (Input.read 0x2F#8)
  | .rdKd1 => .input (Input.read 0x30#8)
  | .rdPstat1 => .input (Input.read 0x31#8)
  | .rdMotDuty1 => .input (Input.read 0x32#8)
  | .rdCmdLin => .input (Input.read 0x41#8)
  | .rdCmdAng => .input (Input.read 0x42#8)
  | .rdTrack => .input (Input.read 0x43#8)
  | .rdBodyLin => .input (Input.read 0x44#8)
  | .rdBodyAng => .input (Input.read 0x45#8)
  | .rdGstat => .input (Input.read 0x46#8)
  | .rdZero a => .input (Input.read a)
  | .wrKAng0 v => .input (Input.write 0x05#8 v)
  | .wrRadius0 v => .input (Input.write 0x06#8 v)
  | .wrFC0 v => .input (Input.write 0x0D#8 v)
  | .wrKp0 v => .input (Input.write 0x0E#8 v)
  | .wrKi0 v => .input (Input.write 0x0F#8 v)
  | .wrKd0 v => .input (Input.write 0x10#8 v)
  | .wrKAng1 v => .input (Input.write 0x25#8 v)
  | .wrRadius1 v => .input (Input.write 0x26#8 v)
  | .wrFC1 v => .input (Input.write 0x2D#8 v)
  | .wrKp1 v => .input (Input.write 0x2E#8 v)
  | .wrKi1 v => .input (Input.write 0x2F#8 v)
  | .wrKd1 v => .input (Input.write 0x30#8 v)
  | .wrCmdLin v => .input (Input.write 0x41#8 v)
  | .wrCmdAng v => .input (Input.write 0x42#8 v)
  | .wrTrack v => .input (Input.write 0x43#8 v)
  | .wrSetpoint0 v => .input (Input.write 0x07#8 v)
  | .wrSetpoint1 v => .input (Input.write 0x27#8 v)
  | .nop => .input (Input.write 0x40#8 0x00#32)
  | .kinSet => .input (Input.write 0x40#8 0x01#32)
  | .kinGet => .input (Input.write 0x40#8 0x02#32)
  | .enable => .input (Input.write 0x40#8 0x03#32)
  | .disable => .input (Input.write 0x40#8 0x04#32)
  | .qrst0 => .input (Input.write 0x40#8 0x05#32)
  | .qrst1 => .input (Input.write 0x40#8 0x06#32)
  | .wrCmdReserved c => .input (Input.write 0x40#8 (c.setWidth 32))
  | .wrIgnored a v => .input (Input.write a v)
  | .noBus => .input Input.idle.toWord

end Sys2Proof
end

