-- ==== Sys2Proof/Machine/Arith.lean ====
section
/-! DEFINITION. The arithmetic primitives of 00_scope.md R7 to R13, over unbounded integers. -/

namespace Sys2Proof.Machine

open Sys2Proof

/-- The signed reading of a pattern (00_scope.md R7). -/
def s32 (p : Word) : Int := p.toInt

/-- The unsigned reading of a pattern (00_scope.md R7). -/
def u32 (p : Word) : Nat := p.toNat

/-- The 32-bit pattern whose signed reading is `z`, for `z` in the signed range (00_scope.md R8). -/
def toReg (z : Int) : Word := BitVec.ofInt 32 z

/-- The integer congruent to `z` modulo 2^32 in the signed range (00_scope.md R9). -/
def wrap32 (z : Int) : Int := Int.bmod z (2 ^ 32)

/-- `z` limited to `lo` to `hi` (00_scope.md R12). -/
def clamp (z lo hi : Int) : Int := if z < lo then lo else if z > hi then hi else z

/-- `z` limited to the signed 32-bit range (00_scope.md R10). -/
def sat32 (z : Int) : Int := if z < -2 ^ 31 then -2 ^ 31 else if z > 2 ^ 31 - 1 then 2 ^ 31 - 1 else z

/-- `floor (z / 2 ^ n)` (00_scope.md R11): division of integers in Lean rounds down for a positive divisor. -/
def shr (z : Int) (n : Nat) : Int := z / 2 ^ n

/-- `floor (n / d)` (00_scope.md R13). -/
def fdiv (n d : Int) : Int := Int.fdiv n d

end Sys2Proof.Machine
end

