-- ==== Sys2Proof/Config.lean ====
section
/-! DEFINITION. The free values of the model: what the spec leaves to a draw or to the environment. -/

namespace Sys2Proof

/-- The three values a double transition may move the count by (40_qdec.md R111). -/
inductive Draw where
  | minusTwo
  | zero
  | plusTwo
deriving DecidableEq, Repr, Inhabited

/-- A draw as the integer it adds to the count (40_qdec.md R111: any element of -2, 0, +2). -/
def Draw.toInt : Draw → Int
  | .minusTwo => -2
  | .zero => 0
  | .plusTwo => 2

/-- FREE VALUE (40_qdec.md R111, 92_eei_decisions.md D13 `QDBL_DRAW`): the draw of wheel `w`'s `n`-th
double transition. It has no body: a claim holds for every choice of the draws (log 4). -/
opaque Config.qdblDraw : Wheel → Nat → Draw

/-- FREE VALUE (70_reset_and_hazards.md R223, 93_implementation_defined.md U7): the input word the
environment presents in a cycle for which no word is listed in `Env.inputs` (log 3). -/
opaque Config.freeInput : Nat → InputWord

end Sys2Proof
end

