-- ==== Sys2Proof/Machine/State.lean ====
section
/-! DEFINITION. The state of R1B-MC (10_state.md), the reasons a step could stop, and the state after reset. -/

namespace Sys2Proof.Machine

open Sys2Proof

/-- The registers of one wheel channel (10_state.md R20 to R31, R35, R38 to R43). -/
structure Channel where
  /-- `A_Q`, `B_Q`: the stored encoder levels (R20). -/
  aQ : Bool
  bQ : Bool
  /-- `COUNT` (R21). -/
  count : Word
  /-- `PREV_COUNT` (R22). -/
  prevCount : Word
  /-- `ANG_VEL`, Q16.16 (R23). -/
  angVel : Word
  /-- `LIN_VEL`, Q16.16 (R24). -/
  linVel : Word
  /-- `K_ANG`, Q8.24 (R38). -/
  kAng : Word
  /-- `RADIUS`, Q8.24 (R39). -/
  radius : Word
  /-- `SETPOINT`, Q16.16 (R25). -/
  setpoint : Word
  /-- `ERROR`, Q16.16 (R26). -/
  error : Word
  /-- `PREV_ERR`, Q16.16 (R27). -/
  prevErr : Word
  /-- `INTEGRAL`, Q16.16 (R28). -/
  integral : Word
  /-- `DUTY`, Q16.16 (R29). -/
  duty : Word
  /-- `TICKS`, unsigned (R30). -/
  ticks : Word
  /-- `F_C`, unsigned (R40). -/
  fC : Word
  /-- `KP`, `KI`, `KD`, Q16.16 (R41 to R43). -/
  kp : Word
  ki : Word
  kd : Word
  /-- `MODE`: true is REGULATING, false is IDLE (R35). -/
  mode : Bool
  /-- `MOT_CMD`: 0 stop, 1 forward, 2 backward (R31). -/
  motCmd : BitVec 2
  /-- `MOT_MAG`, unsigned, 0 to 65536 (R31). -/
  motMag : BitVec 17
  /-- `MOT_STB` (R31, 20_memory.md R72). -/
  motStb : Bool
deriving DecidableEq, Repr

/-- The MODEL's own fields, no register of the spec: the environment's coming input words (log 3) and the
indices of the free values (log 3, log 4). -/
structure Env where
  /-- The input words of the coming cycles, next first. -/
  inputs : List InputWord
  /-- The index of the free input word taken when `inputs` is empty. -/
  cycle : Nat
  /-- How many double transitions the left wheel has taken. -/
  drawsLeft : Nat
  /-- How many double transitions the right wheel has taken. -/
  drawsRight : Nat
deriving DecidableEq, Repr

/-- The whole state (10_state.md R47), the read-data output and the model's own fields. -/
structure State where
  /-- Wheel 0. -/
  left : Channel
  /-- Wheel 1. -/
  right : Channel
  /-- `CMD_LIN`, `CMD_ANG`, Q16.16 (R32). -/
  cmdLin : Word
  cmdAng : Word
  /-- `TRACK`, Q16.16 (R44). -/
  track : Word
  /-- `BODY_LIN`, `BODY_ANG`, Q16.16 (R32). -/
  bodyLin : Word
  bodyAng : Word
  /-- `EN` (R36). -/
  en : Bool
  /-- The output `bus_rdata` of the last cycle (30_encoding.md R81, R84; log 5). -/
  busRdata : Word
  /-- The model's own fields. -/
  env : Env
deriving DecidableEq, Repr

/-- No operation faults: "The block raises no exception, trap, fault or error of any kind"
(60_exceptions.md R180). The type has no constructor, so no step can answer a fault (log 10). -/
inductive Fault where
deriving DecidableEq, Repr

/-- Why an operation would have no meaning in the model. -/
inductive Refusal where
  /-- Raised by an arm of `exec` whose operation the model gives no meaning yet; safe (the run stops). No
  arm raises it. -/
  | notModelled (mnemonic : String)
deriving DecidableEq, Repr

/-- A channel after reset with encoder pins at levels `a`, `b` (10_state.md R48). -/
def Channel.reset (a b : Bool) : Channel where
  aQ := a
  bQ := b
  count := 0
  prevCount := 0
  angVel := 0
  linVel := 0
  kAng := 0
  radius := 0
  setpoint := 0
  error := 0
  prevErr := 0
  integral := 0
  duty := 0
  ticks := 0
  fC := 50
  kp := 78643
  ki := 0
  kd := 78643
  mode := false
  motCmd := 0
  motMag := 0
  motStb := false

/-- The machine right after a reset cycle in which all four encoder pins are low (10_state.md R48; the
levels are log 1), with nothing listed on the inputs (log 3). -/
def State.reset : State where
  left := Channel.reset false false
  right := Channel.reset false false
  cmdLin := 0
  cmdAng := 0
  track := 0
  bodyLin := 0
  bodyAng := 0
  en := false
  busRdata := 0
  env := { inputs := [], cycle := 0, drawsLeft := 0, drawsRight := 0 }

end Sys2Proof.Machine
end

