-- ==== Sys2Proof/Machine/Flags.lean ====
section
/-! DEFINITION. The status words of 10_state.md R37, every bit not listed 0. The block has no condition codes. -/

namespace Sys2Proof.Machine

open Sys2Proof

/-- `QSTAT`: bit 0 `A_Q`, bit 1 `B_Q` (10_state.md R37). -/
def Channel.qstat (c : Channel) : Word :=
  (BitVec.ofBool c.bQ ++ BitVec.ofBool c.aQ).setWidth 32

/-- `PSTAT`: bit 0 `MODE`, bits 2:1 `MOT_CMD`, bit 3 `MOT_STB` (10_state.md R37). -/
def Channel.pstat (c : Channel) : Word :=
  (BitVec.ofBool c.motStb ++ c.motCmd ++ BitVec.ofBool c.mode).setWidth 32

/-- `MOT_DUTY`: the zero-extended `MOT_MAG` (10_state.md R31). -/
def Channel.motDuty (c : Channel) : Word := c.motMag.setWidth 32

/-- `GSTAT`: bit 0 `EN` (10_state.md R37). -/
def State.gstat (s : State) : Word := (BitVec.ofBool s.en).setWidth 32

end Sys2Proof.Machine
end

