-- ==== Sys2Proof/Machine/Operands.lean ====
section
/-! DEFINITION. How an operation names its operands: the wheel a register belongs to, the register an index
names (20_memory.md R68, 30_encoding.md R86, 44_sys.md R161), and the output pins (30_encoding.md R84). -/

namespace Sys2Proof.Machine

open Sys2Proof

/-- The channel of a wheel. -/
def State.wheel (s : State) : Wheel → Channel
  | .left => s.left
  | .right => s.right

/-- The state with a wheel's channel replaced. -/
def State.setWheel (s : State) (w : Wheel) (c : Channel) : State :=
  match w with
  | .left => { s with left := c }
  | .right => { s with right := c }

/-- How many double transitions a wheel has taken (log 4). -/
def State.draws (s : State) : Wheel → Nat
  | .left => s.env.drawsLeft
  | .right => s.env.drawsRight

/-- The state after a wheel has used one draw (log 4). -/
def State.useDraw (s : State) (w : Wheel) : State :=
  match w with
  | .left => { s with env := { s.env with drawsLeft := s.env.drawsLeft + 1 } }
  | .right => { s with env := { s.env with drawsRight := s.env.drawsRight + 1 } }

/-- The wheel of a per-wheel index, its bit 5 (30_encoding.md R86). -/
def wheelOfIndex (a : RegIndex) : Wheel := if a.getLsbD 5 then .right else .left

/-- The register at an offset of a wheel's block (44_sys.md R161, 20_memory.md R68). -/
def Channel.readAt (c : Channel) (o : Nat) : Word :=
  match o with
  | 0x00 => c.count
  | 0x01 => c.qstat
  | 0x02 => c.prevCount
  | 0x03 => c.angVel
  | 0x04 => c.linVel
  | 0x05 => c.kAng
  | 0x06 => c.radius
  | 0x07 => c.setpoint
  | 0x08 => c.error
  | 0x09 => c.prevErr
  | 0x0A => c.integral
  | 0x0B => c.duty
  | 0x0C => c.ticks
  | 0x0D => c.fC
  | 0x0E => c.kp
  | 0x0F => c.ki
  | 0x10 => c.kd
  | 0x11 => c.pstat
  | 0x12 => c.motDuty
  | _ => 0

/-- `BusRead(S, a)`: the pattern a read of index `a` returns (44_sys.md R161). The observation of a whole
state: every bit of the spec's state stands at some index (20_memory.md R62). -/
def busRead (s : State) (a : RegIndex) : Word :=
  if a.toNat < 0x40 then (s.wheel (wheelOfIndex a)).readAt (a.toNat % 0x20)
  else
    match a.toNat with
    | 0x41 => s.cmdLin
    | 0x42 => s.cmdAng
    | 0x43 => s.track
    | 0x44 => s.bodyLin
    | 0x45 => s.bodyAng
    | 0x46 => s.gstat
    | _ => 0

/-- The output pins (30_encoding.md R84). -/
structure Outputs where
  busRdata : Word
  motCmd0 : BitVec 2
  motMag0 : BitVec 17
  motStb0 : Bool
  motCmd1 : BitVec 2
  motMag1 : BitVec 17
  motStb1 : Bool
  drvEn : Bool
deriving DecidableEq, Repr

/-- What the output pins show after a step (30_encoding.md R84). -/
def State.outputs (s : State) : Outputs where
  busRdata := s.busRdata
  motCmd0 := s.left.motCmd
  motMag0 := s.left.motMag
  motStb0 := s.left.motStb
  motCmd1 := s.right.motCmd
  motMag1 := s.right.motMag
  motStb1 := s.right.motStb
  drvEn := s.en

end Sys2Proof.Machine
end

