-- ==== Sys2Proof/Machine/Ops.lean ====
section
/-! DEFINITION. The shared operations of the meanings, each over one channel or the whole state, and the
taking of an input word. Nothing here can fail (60_exceptions.md R180). -/

namespace Sys2Proof.Machine

open Sys2Proof

/-! Quadrature decoder (40_qdec.md). -/

/-- `QTrans` with the count change `d` and the sampled levels `a`, `b` (40_qdec.md R102). -/
def Channel.transition (c : Channel) (d : Int) (a b : Bool) : Channel :=
  { c with count := toReg (wrap32 (s32 c.count + d)), aQ := a, bQ := b }

/-- A wheel's transition with a known count change (40_qdec.md R103 to R110, R112). -/
def edge (w : Wheel) (d : Int) (a b : Bool) (s : State) : State :=
  s.setWheel w ((s.wheel w).transition d a b)

/-- A wheel's double transition: the count moves by the wheel's next draw (40_qdec.md R111; log 4). -/
def doubleEdge (w : Wheel) (a b : Bool) (s : State) : State :=
  (edge w (Config.qdblDraw w (s.draws w)).toInt a b s).useDraw w

/-- `QRST`: the count alone is zeroed (40_qdec.md R113). -/
def Channel.zeroCount (c : Channel) : Channel := { c with count := 0 }

/-! Velocity estimator (41_vest.md). -/

/-- The counts of one sampling period (41_vest.md R120). -/
def Channel.delta (c : Channel) : Int := wrap32 (s32 c.count - s32 c.prevCount)

/-- The wheel's angular velocity for `delta` counts (41_vest.md R120). -/
def Channel.sampledAng (c : Channel) : Int := sat32 (shr (c.delta * s32 c.kAng) 8)

/-- The wheel's linear velocity, from the saturated angular one (41_vest.md R120, R122 (d)). -/
def Channel.sampledLin (c : Channel) : Int := sat32 (shr (c.sampledAng * s32 c.radius) 24)

/-- `STick` (41_vest.md R120). -/
def Channel.sample (c : Channel) : Channel :=
  { c with prevCount := c.count, angVel := toReg c.sampledAng, linVel := toReg c.sampledLin }

/-! PID regulator (42_pid.md). -/

/-- The idle condition, read afresh from the registers at every tick (42_pid.md R131). -/
def Channel.idles (c : Channel) : Bool := c.setpoint == 0 || decide (u32 c.ticks > u32 c.fC)

/-- Step 1, the error (42_pid.md R134). -/
def Channel.pidError (c : Channel) : Int := sat32 (s32 c.setpoint - s32 c.linVel)

/-- Step 2, the new integral (42_pid.md R134). -/
def Channel.pidIntegral (c : Channel) : Int := sat32 (s32 c.integral + c.pidError)

/-- Step 3, the derivative, against the old previous error (42_pid.md R134). -/
def Channel.pidDerivative (c : Channel) : Int := sat32 (c.pidError - s32 c.prevErr)

/-- Step 4, the exact sum of the three products (42_pid.md R134). -/
def Channel.pidAcc (c : Channel) : Int :=
  s32 c.kp * c.pidError + s32 c.ki * c.pidIntegral + s32 c.kd * c.pidDerivative

/-- Steps 4 and 5, the accumulated and clamped duty (42_pid.md R134). -/
def Channel.pidDuty (c : Channel) : Int := clamp (s32 c.duty + shr c.pidAcc 16) (-65536) 65536

/-- The actuator call of a regulating tick: forward for a duty that is not negative, else backward
(42_pid.md R135). -/
def Channel.drive (c : Channel) (u : Int) : Channel :=
  if u ≥ 0 then { c with motCmd := 1, motMag := BitVec.ofInt 17 u }
  else { c with motCmd := 2, motMag := BitVec.ofInt 17 (-u) }

/-- The stall counter after a regulating tick (42_pid.md R136). -/
def Channel.nextTicks (c : Channel) : Word := BitVec.ofNat 32 (min (u32 c.ticks + 1) (2 ^ 32 - 1))

/-- Entering or staying in IDLE (42_pid.md R133): the nearest thing this block has to taking an exception
(60_exceptions.md R187). -/
def Channel.enterIdle (c : Channel) : Channel :=
  { c with mode := false, motCmd := 0, motMag := 0, prevErr := 0 }

/-- A regulating tick: every right side is read from the channel before the tick (42_pid.md R130). -/
def Channel.regulate (c : Channel) : Channel :=
  { c with
    mode := true
    error := toReg c.pidError
    integral := toReg c.pidIntegral
    prevErr := toReg c.pidError
    duty := toReg c.pidDuty
    ticks := c.nextTicks }.drive c.pidDuty

/-- `CTick` (42_pid.md R130). -/
def Channel.control (c : Channel) : Channel := if c.idles then c.enterIdle else c.regulate

/-- `SetSetpoint` (42_pid.md R137): the two patterns are compared. -/
def Channel.setSetpoint (c : Channel) (v : Word) : Channel :=
  if v ≠ c.setpoint then { c with setpoint := v, prevErr := 0, integral := 0, ticks := 0 } else c

/-! Differential-drive kinematics (43_kin.md). -/

/-- `h`, half the difference of the wheel speeds (43_kin.md R151), saturated after its shift as the decision behind
the rule says (92_eei_decisions.md D21; log 9). -/
def State.halfTurn (s : State) : Int := sat32 (shr (s32 s.cmdAng * s32 s.track) 17)

/-- `KIN_SET` (43_kin.md R151). -/
def State.kinSet (s : State) : State :=
  { s with
    left := s.left.setSetpoint (toReg (sat32 (s32 s.cmdLin - s.halfTurn)))
    right := s.right.setSetpoint (toReg (sat32 (s32 s.cmdLin + s.halfTurn))) }

/-- The angular result of `KIN_GET` for a numerator and a track width (43_kin.md R153). -/
def bodyAngular (num track : Int) : Int :=
  if track = 0 then (if num > 0 then 2 ^ 31 - 1 else if num < 0 then -2 ^ 31 else 0)
  else sat32 (fdiv num track)

/-- `KIN_GET` (43_kin.md R153). -/
def State.kinGet (s : State) : State :=
  { s with
    bodyLin := toReg (shr (s32 s.left.linVel + s32 s.right.linVel) 1)
    bodyAng := toReg (bodyAngular ((s32 s.right.linVel - s32 s.left.linVel) * 65536) (s32 s.track)) }

/-! The register port and reset. -/

/-- The state that drives `v` on `bus_rdata` (30_encoding.md R81). -/
def State.drive (s : State) (v : Word) : State := { s with busRdata := v }

/-- The state after a cycle without a read: `bus_rdata` is 0 (30_encoding.md R81). -/
def State.quiet (s : State) : State := s.drive 0

/-- `ResetState` (70_reset_and_hazards.md R200): every register of the spec at its reset value, the stored
levels at the pins (R201), the model's own fields kept (log 3, log 4). -/
def State.resetTo (s : State) (a0 b0 a1 b1 : Bool) : State :=
  { State.reset with left := Channel.reset a0 b0, right := Channel.reset a1 b1, env := s.env }

/-! The input word of a cycle. -/

/-- The input word of the coming cycle: the first listed one, else a free one (log 3). -/
def State.nextWord (s : State) : InputWord :=
  match s.env.inputs with
  | [] => Config.freeInput s.env.cycle
  | i :: _ => i

/-- The state once that word has been taken (log 3). -/
def State.taken (s : State) : State :=
  match s.env.inputs with
  | [] => { s with env := { s.env with cycle := s.env.cycle + 1 } }
  | _ :: rest => { s with env := { s.env with inputs := rest } }

/-- The state with a word placed so that the next cycle takes it. -/
def State.present (s : State) (i : InputWord) : State :=
  { s with env := { s.env with inputs := i :: s.env.inputs } }

/-- A wheel's transition code for sampled levels `a`, `b` (30_encoding.md R82). -/
def Channel.code (c : Channel) (a b : Bool) : BitVec 4 := transitionCode c.aQ c.bQ a b

/-- The operations a cycle selects in a state (20_memory.md R70, 30_encoding.md R88). -/
def State.operations (s : State) (p : Input) : List Instr :=
  decodeCycle (s.left.code p.encA0 p.encB0) (s.right.code p.encA1 p.encB1) p

/-- Phase 5: each strobe output shows whether its wheel had a control tick (20_memory.md R72). -/
def State.strobes (s : State) (p : Input) : State :=
  { s with left := { s.left with motStb := p.ctick0 }, right := { s.right with motStb := p.ctick1 } }

/-- The state in which the next cycle takes the left wheel's transition code `c`: the stored levels are the
code's bits 3 and 2, the pins present its bits 1 and 0, and the right wheel's pins hold their levels (log 7). -/
def State.presentTransition (s : State) (c : BitVec 4) : State :=
  { s with left := { s.left with aQ := c.getLsbD 3, bQ := c.getLsbD 2 } }.present
    ({ Input.idle with
        encA0 := c.getLsbD 1
        encB0 := c.getLsbD 0
        encA1 := s.right.aQ
        encB1 := s.right.bQ }).toWord

end Sys2Proof.Machine
end

