-- ==== Sys2Proof/Machine/Kin.lean ====
section
/-! DEFINITION. The differential-drive kinematics: `KIN_SET` and `KIN_GET` (43_kin.md). -/

namespace Sys2Proof.Machine

open Sys2Proof

/-- `KIN_SET` (43_kin.md R151). -/
def execKinSet (s : State) : Host.Outcome State Fault Refusal :=
  .next s.kinSet.quiet

/-- `KIN_GET` (43_kin.md R153). -/
def execKinGet (s : State) : Host.Outcome State Fault Refusal :=
  .next s.kinGet.quiet

end Sys2Proof.Machine
end

