-- ==== Sys2Proof/Machine/Pid.lean ====
section
/-! DEFINITION. The PID velocity regulator: `CTICK` and `WR SETPOINT` (42_pid.md). -/

namespace Sys2Proof.Machine

open Sys2Proof

/-- `CTICK 0` (42_pid.md R130); `MOT_STB` is written by the cycle, not by the tick (20_memory.md R72; log 8). -/
def execCtick0 (s : State) : Host.Outcome State Fault Refusal :=
  .next { s with left := s.left.control }

/-- `CTICK 1` (42_pid.md R130); `MOT_STB` is written by the cycle, not by the tick (20_memory.md R72; log 8). -/
def execCtick1 (s : State) : Host.Outcome State Fault Refusal :=
  .next { s with right := s.right.control }

/-- `WR SETPOINT[0], v` (42_pid.md R138). -/
def execWrSetpoint0 (v : Word) (s : State) : Host.Outcome State Fault Refusal :=
  .next (State.quiet { s with left := s.left.setSetpoint v })

/-- `WR SETPOINT[1], v` (42_pid.md R138). -/
def execWrSetpoint1 (v : Word) (s : State) : Host.Outcome State Fault Refusal :=
  .next (State.quiet { s with right := s.right.setSetpoint v })

end Sys2Proof.Machine
end

