-- ==== Sys2Proof/Machine/Qdec.lean ====
section
/-! DEFINITION. The quadrature decoder: the 16 transition codes and `QRST` (40_qdec.md). -/

namespace Sys2Proof.Machine

open Sys2Proof

/-- `QNOP`, code `0000`: no edge (40_qdec.md R112). -/
def execQnop0000 (w : Wheel) (s : State) : Host.Outcome State Fault Refusal :=
  .next (edge w 0 false false s)

/-- `QNOP`, code `0101`: no edge (40_qdec.md R112). -/
def execQnop0101 (w : Wheel) (s : State) : Host.Outcome State Fault Refusal :=
  .next (edge w 0 false true s)

/-- `QNOP`, code `1010`: no edge (40_qdec.md R112). -/
def execQnop1010 (w : Wheel) (s : State) : Host.Outcome State Fault Refusal :=
  .next (edge w 0 true false s)

/-- `QNOP`, code `1111`: no edge (40_qdec.md R112). -/
def execQnop1111 (w : Wheel) (s : State) : Host.Outcome State Fault Refusal :=
  .next (edge w 0 true true s)

/-- `QA_R0`, code `0010`: channel A rises while the other channel is 0 (40_qdec.md R103). -/
def execQaR0 (w : Wheel) (s : State) : Host.Outcome State Fault Refusal :=
  .next (edge w 1 true false s)

/-- `QA_R1`, code `0111`: channel A rises while the other channel is 1 (40_qdec.md R104). -/
def execQaR1 (w : Wheel) (s : State) : Host.Outcome State Fault Refusal :=
  .next (edge w (-1) true true s)

/-- `QA_F0`, code `1000`: channel A falls while the other channel is 0 (40_qdec.md R105). -/
def execQaF0 (w : Wheel) (s : State) : Host.Outcome State Fault Refusal :=
  .next (edge w (-1) false false s)

/-- `QA_F1`, code `1101`: channel A falls while the other channel is 1 (40_qdec.md R106). -/
def execQaF1 (w : Wheel) (s : State) : Host.Outcome State Fault Refusal :=
  .next (edge w 1 false true s)

/-- `QB_R0`, code `0001`: channel B rises while the other channel is 0 (40_qdec.md R107). -/
def execQbR0 (w : Wheel) (s : State) : Host.Outcome State Fault Refusal :=
  .next (edge w (-1) false true s)

/-- `QB_R1`, code `1011`: channel B rises while the other channel is 1 (40_qdec.md R108). -/
def execQbR1 (w : Wheel) (s : State) : Host.Outcome State Fault Refusal :=
  .next (edge w 1 true true s)

/-- `QB_F0`, code `0100`: channel B falls while the other channel is 0 (40_qdec.md R109). -/
def execQbF0 (w : Wheel) (s : State) : Host.Outcome State Fault Refusal :=
  .next (edge w 1 false false s)

/-- `QB_F1`, code `1110`: channel B falls while the other channel is 1 (40_qdec.md R110). -/
def execQbF1 (w : Wheel) (s : State) : Host.Outcome State Fault Refusal :=
  .next (edge w (-1) true false s)

/-- `QDBL`, code `0011`: both channels change (40_qdec.md R111). -/
def execQdbl0011 (w : Wheel) (s : State) : Host.Outcome State Fault Refusal :=
  .next (doubleEdge w true true s)

/-- `QDBL`, code `0110`: both channels change (40_qdec.md R111). -/
def execQdbl0110 (w : Wheel) (s : State) : Host.Outcome State Fault Refusal :=
  .next (doubleEdge w true false s)

/-- `QDBL`, code `1001`: both channels change (40_qdec.md R111). -/
def execQdbl1001 (w : Wheel) (s : State) : Host.Outcome State Fault Refusal :=
  .next (doubleEdge w false true s)

/-- `QDBL`, code `1100`: both channels change (40_qdec.md R111). -/
def execQdbl1100 (w : Wheel) (s : State) : Host.Outcome State Fault Refusal :=
  .next (doubleEdge w false false s)

/-- `QRST0` (40_qdec.md R113). -/
def execQrst0 (s : State) : Host.Outcome State Fault Refusal :=
  .next (State.quiet { s with left := s.left.zeroCount })

/-- `QRST1` (40_qdec.md R113). -/
def execQrst1 (s : State) : Host.Outcome State Fault Refusal :=
  .next (State.quiet { s with right := s.right.zeroCount })

end Sys2Proof.Machine
end

