-- ==== Sys2Proof/Machine/Read.lean ====
section
/-! DEFINITION. Register reads (44_sys.md R161): a read drives `bus_rdata` and changes no register. -/

namespace Sys2Proof.Machine

open Sys2Proof

/-- `RD COUNT[0]`, index 0x00 (44_sys.md R161). -/
def execRdCount0 (s : State) : Host.Outcome State Fault Refusal :=
  .next (s.drive s.left.count)

/-- `RD QSTAT[0]`, index 0x01 (44_sys.md R161). -/
def execRdQstat0 (s : State) : Host.Outcome State Fault Refusal :=
  .next (s.drive s.left.qstat)

/-- `RD PREV_COUNT[0]`, index 0x02 (44_sys.md R161). -/
def execRdPrevCount0 (s : State) : Host.Outcome State Fault Refusal :=
  .next (s.drive s.left.prevCount)

/-- `RD ANG_VEL[0]`, index 0x03 (44_sys.md R161). -/
def execRdAngVel0 (s : State) : Host.Outcome State Fault Refusal :=
  .next (s.drive s.left.angVel)

/-- `RD LIN_VEL[0]`, index 0x04 (44_sys.md R161). -/
def execRdLinVel0 (s : State) : Host.Outcome State Fault Refusal :=
  .next (s.drive s.left.linVel)

/-- `RD K_ANG[0]`, index 0x05 (44_sys.md R161). -/
def execRdKAng0 (s : State) : Host.Outcome State Fault Refusal :=
  .next (s.drive s.left.kAng)

/-- `RD RADIUS[0]`, index 0x06 (44_sys.md R161). -/
def execRdRadius0 (s : State) : Host.Outcome State Fault Refusal :=
  .next (s.drive s.left.radius)

/-- `RD SETPOINT[0]`, index 0x07 (44_sys.md R161). -/
def execRdSetpoint0 (s : State) : Host.Outcome State Fault Refusal :=
  .next (s.drive s.left.setpoint)

/-- `RD ERROR[0]`, index 0x08 (44_sys.md R161). -/
def execRdError0 (s : State) : Host.Outcome State Fault Refusal :=
  .next (s.drive s.left.error)

/-- `RD PREV_ERR[0]`, index 0x09 (44_sys.md R161). -/
def execRdPrevErr0 (s : State) : Host.Outcome State Fault Refusal :=
  .next (s.drive s.left.prevErr)

/-- `RD INTEGRAL[0]`, index 0x0A (44_sys.md R161). -/
def execRdIntegral0 (s : State) : Host.Outcome State Fault Refusal :=
  .next (s.drive s.left.integral)

/-- `RD DUTY[0]`, index 0x0B (44_sys.md R161). -/
def execRdDuty0 (s : State) : Host.Outcome State Fault Refusal :=
  .next (s.drive s.left.duty)

/-- `RD TICKS[0]`, index 0x0C (44_sys.md R161). -/
def execRdTicks0 (s : State) : Host.Outcome State Fault Refusal :=
  .next (s.drive s.left.ticks)

/-- `RD F_C[0]`, index 0x0D (44_sys.md R161). -/
def execRdFC0 (s : State) : Host.Outcome State Fault Refusal :=
  .next (s.drive s.left.fC)

/-- `RD KP[0]`, index 0x0E (44_sys.md R161). -/
def execRdKp0 (s : State) : Host.Outcome State Fault Refusal :=
  .next (s.drive s.left.kp)

/-- `RD KI[0]`, index 0x0F (44_sys.md R161). -/
def execRdKi0 (s : State) : Host.Outcome State Fault Refusal :=
  .next (s.drive s.left.ki)

/-- `RD KD[0]`, index 0x10 (44_sys.md R161). -/
def execRdKd0 (s : State) : Host.Outcome State Fault Refusal :=
  .next (s.drive s.left.kd)

/-- `RD PSTAT[0]`, index 0x11 (44_sys.md R161). -/
def execRdPstat0 (s : State) : Host.Outcome State Fault Refusal :=
  .next (s.drive s.left.pstat)

/-- `RD MOT_DUTY[0]`, index 0x12 (44_sys.md R161). -/
def execRdMotDuty0 (s : State) : Host.Outcome State Fault Refusal :=
  .next (s.drive s.left.motDuty)

/-- `RD COUNT[1]`, index 0x20 (44_sys.md R161). -/
def execRdCount1 (s : State) : Host.Outcome State Fault Refusal :=
  .next (s.drive s.right.count)

/-- `RD QSTAT[1]`, index 0x21 (44_sys.md R161). -/
def execRdQstat1 (s : State) : Host.Outcome State Fault Refusal :=
  .next (s.drive s.right.qstat)

/-- `RD PREV_COUNT[1]`, index 0x22 (44_sys.md R161). -/
def execRdPrevCount1 (s : State) : Host.Outcome State Fault Refusal :=
  .next (s.drive s.right.prevCount)

/-- `RD ANG_VEL[1]`, index 0x23 (44_sys.md R161). -/
def execRdAngVel1 (s : State) : Host.Outcome State Fault Refusal :=
  .next (s.drive s.right.angVel)

/-- `RD LIN_VEL[1]`, index 0x24 (44_sys.md R161). -/
def execRdLinVel1 (s : State) : Host.Outcome State Fault Refusal :=
  .next (s.drive s.right.linVel)

/-- `RD K_ANG[1]`, index 0x25 (44_sys.md R161). -/
def execRdKAng1 (s : State) : Host.Outcome State Fault Refusal :=
  .next (s.drive s.right.kAng)

/-- `RD RADIUS[1]`, index 0x26 (44_sys.md R161). -/
def execRdRadius1 (s : State) : Host.Outcome State Fault Refusal :=
  .next (s.drive s.right.radius)

/-- `RD SETPOINT[1]`, index 0x27 (44_sys.md R161). -/
def execRdSetpoint1 (s : State) : Host.Outcome State Fault Refusal :=
  .next (s.drive s.right.setpoint)

/-- `RD ERROR[1]`, index 0x28 (44_sys.md R161). -/
def execRdError1 (s : State) : Host.Outcome State Fault Refusal :=
  .next (s.drive s.right.error)

/-- `RD PREV_ERR[1]`, index 0x29 (44_sys.md R161). -/
def execRdPrevErr1 (s : State) : Host.Outcome State Fault Refusal :=
  .next (s.drive s.right.prevErr)

/-- `RD INTEGRAL[1]`, index 0x2A (44_sys.md R161). -/
def execRdIntegral1 (s : State) : Host.Outcome State Fault Refusal :=
  .next (s.drive s.right.integral)

/-- `RD DUTY[1]`, index 0x2B (44_sys.md R161). -/
def execRdDuty1 (s : State) : Host.Outcome State Fault Refusal :=
  .next (s.drive s.right.duty)

/-- `RD TICKS[1]`, index 0x2C (44_sys.md R161). -/
def execRdTicks1 (s : State) : Host.Outcome State Fault Refusal :=
  .next (s.drive s.right.ticks)

/-- `RD F_C[1]`, index 0x2D (44_sys.md R161). -/
def execRdFC1 (s : State) : Host.Outcome State Fault Refusal :=
  .next (s.drive s.right.fC)

/-- `RD KP[1]`, index 0x2E (44_sys.md R161). -/
def execRdKp1 (s : State) : Host.Outcome State Fault Refusal :=
  .next (s.drive s.right.kp)

/-- `RD KI[1]`, index 0x2F (44_sys.md R161). -/
def execRdKi1 (s : State) : Host.Outcome State Fault Refusal :=
  .next (s.drive s.right.ki)

/-- `RD KD[1]`, index 0x30 (44_sys.md R161). -/
def execRdKd1 (s : State) : Host.Outcome State Fault Refusal :=
  .next (s.drive s.right.kd)

/-- `RD PSTAT[1]`, index 0x31 (44_sys.md R161). -/
def execRdPstat1 (s : State) : Host.Outcome State Fault Refusal :=
  .next (s.drive s.right.pstat)

/-- `RD MOT_DUTY[1]`, index 0x32 (44_sys.md R161). -/
def execRdMotDuty1 (s : State) : Host.Outcome State Fault Refusal :=
  .next (s.drive s.right.motDuty)

/-- `RD CMD_LIN`, index 0x41 (44_sys.md R161). -/
def execRdCmdLin (s : State) : Host.Outcome State Fault Refusal :=
  .next (s.drive s.cmdLin)

/-- `RD CMD_ANG`, index 0x42 (44_sys.md R161). -/
def execRdCmdAng (s : State) : Host.Outcome State Fault Refusal :=
  .next (s.drive s.cmdAng)

/-- `RD TRACK`, index 0x43 (44_sys.md R161). -/
def execRdTrack (s : State) : Host.Outcome State Fault Refusal :=
  .next (s.drive s.track)

/-- `RD BODY_LIN`, index 0x44 (44_sys.md R161). -/
def execRdBodyLin (s : State) : Host.Outcome State Fault Refusal :=
  .next (s.drive s.bodyLin)

/-- `RD BODY_ANG`, index 0x45 (44_sys.md R161). -/
def execRdBodyAng (s : State) : Host.Outcome State Fault Refusal :=
  .next (s.drive s.bodyAng)

/-- `RD GSTAT`, index 0x46 (44_sys.md R161). -/
def execRdGstat (s : State) : Host.Outcome State Fault Refusal :=
  .next (s.drive s.gstat)

/-- A read of `CMD` or of an unmapped index returns 0 (44_sys.md R161, 30_encoding.md R89). -/
def execRdZero (_ : RegIndex) (s : State) : Host.Outcome State Fault Refusal :=
  .next (s.drive 0)

end Sys2Proof.Machine
end

