-- ==== Sys2Proof/Machine/Sys.lean ====
section
/-! DEFINITION. System operations: `RESET` (70_reset_and_hazards.md R200), `NOP`, `ENABLE`, `DISABLE` and the reserved
command codes (44_sys.md R164 to R167). -/

namespace Sys2Proof.Machine

open Sys2Proof

/-- `RESET` with the pin levels of the cycle (70_reset_and_hazards.md R200, R201). -/
def execReset (a0 b0 a1 b1 : Bool) (s : State) : Host.Outcome State Fault Refusal :=
  .next (s.resetTo a0 b0 a1 b1)

/-- `NOP` (44_sys.md R165). -/
def execNop (s : State) : Host.Outcome State Fault Refusal :=
  .next s.quiet

/-- `ENABLE` (44_sys.md R166). -/
def execEnable (s : State) : Host.Outcome State Fault Refusal :=
  .next (State.quiet { s with en := true })

/-- `DISABLE` (44_sys.md R167). -/
def execDisable (s : State) : Host.Outcome State Fault Refusal :=
  .next (State.quiet { s with en := false })

/-- A reserved command code changes nothing (30_encoding.md R90). -/
def execWrCmdReserved (_ : BitVec 8) (s : State) : Host.Outcome State Fault Refusal :=
  .next s.quiet

end Sys2Proof.Machine
end

