-- ==== Sys2Proof/Machine/Vest.lean ====
section
/-! DEFINITION. The velocity estimator: `STICK` (41_vest.md). -/

namespace Sys2Proof.Machine

open Sys2Proof

/-- `STICK 0` (41_vest.md R120). -/
def execStick0 (s : State) : Host.Outcome State Fault Refusal :=
  .next { s with left := s.left.sample }

/-- `STICK 1` (41_vest.md R120). -/
def execStick1 (s : State) : Host.Outcome State Fault Refusal :=
  .next { s with right := s.right.sample }

end Sys2Proof.Machine
end

