-- ==== Sys2Proof/Machine/Write.lean ====
section
/-! DEFINITION. Register writes without a side effect (44_sys.md R163), ignored writes (30_encoding.md R89) and the cycle
without a bus operation (R81). -/

namespace Sys2Proof.Machine

open Sys2Proof

/-- `WR K_ANG[0], v`, index 0x05 (44_sys.md R163). -/
def execWrKAng0 (v : Word) (s : State) : Host.Outcome State Fault Refusal :=
  .next (State.quiet { s with left := { s.left with kAng := v } })

/-- `WR RADIUS[0], v`, index 0x06 (44_sys.md R163). -/
def execWrRadius0 (v : Word) (s : State) : Host.Outcome State Fault Refusal :=
  .next (State.quiet { s with left := { s.left with radius := v } })

/-- `WR F_C[0], v`, index 0x0D (44_sys.md R163). -/
def execWrFC0 (v : Word) (s : State) : Host.Outcome State Fault Refusal :=
  .next (State.quiet { s with left := { s.left with fC := v } })

/-- `WR KP[0], v`, index 0x0E (44_sys.md R163). -/
def execWrKp0 (v : Word) (s : State) : Host.Outcome State Fault Refusal :=
  .next (State.quiet { s with left := { s.left with kp := v } })

/-- `WR KI[0], v`, index 0x0F (44_sys.md R163). -/
def execWrKi0 (v : Word) (s : State) : Host.Outcome State Fault Refusal :=
  .next (State.quiet { s with left := { s.left with ki := v } })

/-- `WR KD[0], v`, index 0x10 (44_sys.md R163). -/
def execWrKd0 (v : Word) (s : State) : Host.Outcome State Fault Refusal :=
  .next (State.quiet { s with left := { s.left with kd := v } })

/-- `WR K_ANG[1], v`, index 0x25 (44_sys.md R163). -/
def execWrKAng1 (v : Word) (s : State) : Host.Outcome State Fault Refusal :=
  .next (State.quiet { s with right := { s.right with kAng := v } })

/-- `WR RADIUS[1], v`, index 0x26 (44_sys.md R163). -/
def execWrRadius1 (v : Word) (s : State) : Host.Outcome State Fault Refusal :=
  .next (State.quiet { s with right := { s.right with radius := v } })

/-- `WR F_C[1], v`, index 0x2D (44_sys.md R163). -/
def execWrFC1 (v : Word) (s : State) : Host.Outcome State Fault Refusal :=
  .next (State.quiet { s with right := { s.right with fC := v } })

/-- `WR KP[1], v`, index 0x2E (44_sys.md R163). -/
def execWrKp1 (v : Word) (s : State) : Host.Outcome State Fault Refusal :=
  .next (State.quiet { s with right := { s.right with kp := v } })

/-- `WR KI[1], v`, index 0x2F (44_sys.md R163). -/
def execWrKi1 (v : Word) (s : State) : Host.Outcome State Fault Refusal :=
  .next (State.quiet { s with right := { s.right with ki := v } })

/-- `WR KD[1], v`, index 0x30 (44_sys.md R163). -/
def execWrKd1 (v : Word) (s : State) : Host.Outcome State Fault Refusal :=
  .next (State.quiet { s with right := { s.right with kd := v } })

/-- `WR CMD_LIN, v`, index 0x41 (44_sys.md R163). -/
def execWrCmdLin (v : Word) (s : State) : Host.Outcome State Fault Refusal :=
  .next (State.quiet { s with cmdLin := v })

/-- `WR CMD_ANG, v`, index 0x42 (44_sys.md R163). -/
def execWrCmdAng (v : Word) (s : State) : Host.Outcome State Fault Refusal :=
  .next (State.quiet { s with cmdAng := v })

/-- `WR TRACK, v`, index 0x43 (44_sys.md R163). -/
def execWrTrack (v : Word) (s : State) : Host.Outcome State Fault Refusal :=
  .next (State.quiet { s with track := v })

/-- A write to a read-only or unmapped index changes nothing (30_encoding.md R89). -/
def execWrIgnored (_ : RegIndex) (_ : Word) (s : State) : Host.Outcome State Fault Refusal :=
  .next s.quiet

/-- No bus operation (30_encoding.md R81). -/
def execNoBus (s : State) : Host.Outcome State Fault Refusal :=
  .next s.quiet

end Sys2Proof.Machine
end

