-- ==== Sys2Proof/Machine/Dispatch.lean ====
section
/-! DEFINITION. One operation's meaning, arm by arm (00_scope.md R17). -/

namespace Sys2Proof.Machine

open Sys2Proof

def exec (i : Instr) (s : State) : Host.Outcome State Fault Refusal :=
  match i with
  | .qnop0000 w => Sys2Proof.Machine.execQnop0000 w s
  | .qnop0101 w => Sys2Proof.Machine.execQnop0101 w s
  | .qnop1010 w => Sys2Proof.Machine.execQnop1010 w s
  | .qnop1111 w => Sys2Proof.Machine.execQnop1111 w s
  | .qaR0 w => Sys2Proof.Machine.execQaR0 w s
  | .qaR1 w => Sys2Proof.Machine.execQaR1 w s
  | .qaF0 w => Sys2Proof.Machine.execQaF0 w s
  | .qaF1 w => Sys2Proof.Machine.execQaF1 w s
  | .qbR0 w => Sys2Proof.Machine.execQbR0 w s
  | .qbR1 w => Sys2Proof.Machine.execQbR1 w s
  | .qbF0 w => Sys2Proof.Machine.execQbF0 w s
  | .qbF1 w => Sys2Proof.Machine.execQbF1 w s
  | .qdbl0011 w => Sys2Proof.Machine.execQdbl0011 w s
  | .qdbl0110 w => Sys2Proof.Machine.execQdbl0110 w s
  | .qdbl1001 w => Sys2Proof.Machine.execQdbl1001 w s
  | .qdbl1100 w => Sys2Proof.Machine.execQdbl1100 w s
  | .reset a0 b0 a1 b1 => Sys2Proof.Machine.execReset a0 b0 a1 b1 s
  | .stick0 => Sys2Proof.Machine.execStick0 s
  | .stick1 => Sys2Proof.Machine.execStick1 s
  | .ctick0 => Sys2Proof.Machine.execCtick0 s
  | .ctick1 => Sys2Proof.Machine.execCtick1 s
  | .rdCount0 => Sys2Proof.Machine.execRdCount0 s
  | .rdQstat0 => Sys2Proof.Machine.execRdQstat0 s
  | .rdPrevCount0 => Sys2Proof.Machine.execRdPrevCount0 s
  | .rdAngVel0 => Sys2Proof.Machine.execRdAngVel0 s
  | .rdLinVel0 => Sys2Proof.Machine.execRdLinVel0 s
  | .rdKAng0 => Sys2Proof.Machine.execRdKAng0 s
  | .rdRadius0 => Sys2Proof.Machine.execRdRadius0 s
  | .rdSetpoint0 => Sys2Proof.Machine.execRdSetpoint0 s
  | .rdError0 => Sys2Proof.Machine.execRdError0 s
  | .rdPrevErr0 => Sys2Proof.Machine.execRdPrevErr0 s
  | .rdIntegral0 => Sys2Proof.Machine.execRdIntegral0 s
  | .rdDuty0 => Sys2Proof.Machine.execRdDuty0 s
  | .rdTicks0 => Sys2Proof.Machine.execRdTicks0 s
  | .rdFC0 => Sys2Proof.Machine.execRdFC0 s
  | .rdKp0 => Sys2Proof.Machine.execRdKp0 s
  | .rdKi0 => Sys2Proof.Machine.execRdKi0 s
  | .rdKd0 => Sys2Proof.Machine.execRdKd0 s
  | .rdPstat0 => Sys2Proof.Machine.execRdPstat0 s
  | .rdMotDuty0 => Sys2Proof.Machine.execRdMotDuty0 s
  | .rdCount1 => Sys2Proof.Machine.execRdCount1 s
  | .rdQstat1 => Sys2Proof.Machine.execRdQstat1 s
  | .rdPrevCount1 => Sys2Proof.Machine.execRdPrevCount1 s
  | .rdAngVel1 => Sys2Proof.Machine.execRdAngVel1 s
  | .rdLinVel1 => Sys2Proof.Machine.execRdLinVel1 s
  | .rdKAng1 => Sys2Proof.Machine.execRdKAng1 s
  | .rdRadius1 => Sys2Proof.Machine.execRdRadius1 s
  | .rdSetpoint1 => Sys2Proof.Machine.execRdSetpoint1 s
  | .rdError1 => Sys2Proof.Machine.execRdError1 s
  | .rdPrevErr1 => Sys2Proof.Machine.execRdPrevErr1 s
  | .rdIntegral1 => Sys2Proof.Machine.execRdIntegral1 s
  | .rdDuty1 => Sys2Proof.Machine.execRdDuty1 s
  | .rdTicks1 => Sys2Proof.Machine.execRdTicks1 s
  | .rdFC1 => Sys2Proof.Machine.execRdFC1 s
  | .rdKp1 => Sys2Proof.Machine.execRdKp1 s
  | .rdKi1 => Sys2Proof.Machine.execRdKi1 s
  | .rdKd1 => Sys2Proof.Machine.execRdKd1 s
  | .rdPstat1 => Sys2Proof.Machine.execRdPstat1 s
  | .rdMotDuty1 => Sys2Proof.Machine.execRdMotDuty1 s
  | .rdCmdLin => Sys2Proof.Machine.execRdCmdLin s
  | .rdCmdAng => Sys2Proof.Machine.execRdCmdAng s
  | .rdTrack => Sys2Proof.Machine.execRdTrack s
  | .rdBodyLin => Sys2Proof.Machine.execRdBodyLin s
  | .rdBodyAng => Sys2Proof.Machine.execRdBodyAng s
  | .rdGstat => Sys2Proof.Machine.execRdGstat s
  | .rdZero a => Sys2Proof.Machine.execRdZero a s
  | .wrKAng0 v => Sys2Proof.Machine.execWrKAng0 v s
  | .wrRadius0 v => Sys2Proof.Machine.execWrRadius0 v s
  | .wrFC0 v => Sys2Proof.Machine.execWrFC0 v s
  | .wrKp0 v => Sys2Proof.Machine.execWrKp0 v s
  | .wrKi0 v => Sys2Proof.Machine.execWrKi0 v s
  | .wrKd0 v => Sys2Proof.Machine.execWrKd0 v s
  | .wrKAng1 v => Sys2Proof.Machine.execWrKAng1 v s
  | .wrRadius1 v => Sys2Proof.Machine.execWrRadius1 v s
  | .wrFC1 v => Sys2Proof.Machine.execWrFC1 v s
  | .wrKp1 v => Sys2Proof.Machine.execWrKp1 v s
  | .wrKi1 v => Sys2Proof.Machine.execWrKi1 v s
  | .wrKd1 v => Sys2Proof.Machine.execWrKd1 v s
  | .wrCmdLin v => Sys2Proof.Machine.execWrCmdLin v s
  | .wrCmdAng v => Sys2Proof.Machine.execWrCmdAng v s
  | .wrTrack v => Sys2Proof.Machine.execWrTrack v s
  | .wrSetpoint0 v => Sys2Proof.Machine.execWrSetpoint0 v s
  | .wrSetpoint1 v => Sys2Proof.Machine.execWrSetpoint1 v s
  | .nop => Sys2Proof.Machine.execNop s
  | .kinSet => Sys2Proof.Machine.execKinSet s
  | .kinGet => Sys2Proof.Machine.execKinGet s
  | .enable => Sys2Proof.Machine.execEnable s
  | .disable => Sys2Proof.Machine.execDisable s
  | .qrst0 => Sys2Proof.Machine.execQrst0 s
  | .qrst1 => Sys2Proof.Machine.execQrst1 s
  | .wrCmdReserved code => Sys2Proof.Machine.execWrCmdReserved code s
  | .wrIgnored a v => Sys2Proof.Machine.execWrIgnored a v s
  | .noBus => Sys2Proof.Machine.execNoBus s

end Sys2Proof.Machine
end

