-- ==== Sys2Proof/Machine/Cycle.lean ====
section
/-! DEFINITION. One clock cycle: its operations in order, then the strobe bookkeeping (20_memory.md R70). -/

namespace Sys2Proof.Machine

open Sys2Proof

/-- The operations one after another, each on the state the one before left (20_memory.md R70, R71). -/
def runOperations : List Instr → State → Host.Outcome State Fault Refusal
  | [], s => .next s
  | i :: rest, s =>
    match exec i s with
    | .next t => runOperations rest t
    | .fault r => .fault r
    | .refused r => .refused r

/-- One clock cycle with the input `p` (20_memory.md R70): in a reset cycle nothing but `RESET` happens, so
there is no strobe bookkeeping after it. -/
def cycle (p : Input) (s : State) : Host.Outcome State Fault Refusal :=
  match runOperations (s.operations p) s with
  | .next t => .next (if p.rst then t else t.strobes p)
  | .fault r => .fault r
  | .refused r => .refused r

/-- The cycle of the next input word (30_encoding.md R80). -/
def nextCycle (s : State) : Host.Outcome State Fault Refusal :=
  cycle (Input.ofWord s.nextWord) s.taken

/-- The state in which the next cycle takes the `nbits`-bit pattern `w`, numbered as the opcode table
numbers its bits (log 7). -/
def placePattern (s : State) (nbits w : Nat) : State :=
  if nbits ≤ 8 then s.presentTransition (BitVec.ofNat 4 w) else s.present (BitVec.ofNat 51 w)

end Sys2Proof.Machine
end

