-- ==== Sys2Proof/Machine/Step.lean ====
section
/-! DEFINITION. One step is one clock cycle (00_scope.md R17). -/

namespace Sys2Proof.Machine

open Sys2Proof

/-- One rising clock edge (00_scope.md R17, 20_memory.md R70). -/
def step (s : State) : Host.Outcome State Fault Refusal := nextCycle s

/-- The state whose very next step runs the `nbits`-bit pattern `w` (log 7). -/
def State.withFetchWord (s : State) (nbits w : Nat) : State := placePattern s nbits w

end Sys2Proof.Machine
end

