-- ==== Sys2Proof/Machine/Event.lean ====
section
/-! DEFINITION. The event-level model (00_scope.md R18): one event per step, in any interleaving. -/

namespace Sys2Proof.Machine

open Sys2Proof

/-- What can happen next in the event-level model. -/
inductive Event where
  /-- One whole operation of an agent (00_scope.md R18, 20_memory.md R77). -/
  | operation (i : Instr)
  /-- The strobe bookkeeping, "the only state written outside the operations proper" (20_memory.md R72): the strobes of
  wheels 0 and 1 take these values. -/
  | strobes (left right : Bool)
  /-- The environment's next input word passes, which changes the model's own fields only (log 3). -/
  | input
deriving DecidableEq, Repr

/-- One step of the event-level model (00_scope.md R18). An event may come in any state and a strobe may take any value
at any time, so that the model allows more than the block does and errs toward unprovable (log 8). -/
def eventStep (e : Event) (s : State) : Host.Outcome State Fault Refusal :=
  match e with
  | .operation i => exec i s
  | .strobes left right => .next (s.strobes { Input.idle with ctick0 := left, ctick1 := right })
  | .input => .next s.taken

/-- The events one after another (20_memory.md R71). -/
def runEvents : List Event → State → Host.Outcome State Fault Refusal
  | [], s => .next s
  | e :: rest, s =>
    match eventStep e s with
    | .next t => runEvents rest t
    | .fault r => .fault r
    | .refused r => .refused r

/-- The events of one clock cycle with the input `p` (20_memory.md R70): the word passes, the operations of phases 1 to 4
happen in order, then phase 5; in a reset cycle nothing but `RESET` happens. -/
def State.cycleEvents (s : State) (p : Input) : List Event :=
  .input :: ((s.operations p).map .operation ++ if p.rst then [] else [.strobes p.ctick0 p.ctick1])

end Sys2Proof.Machine
end

