-- ==== Sys2Proof/Machine/Reference.lean ====
section
/-! DEFINITION. The spec's own whole-cycle pseudocode, written phase by phase and index by index (40_qdec.md
R102, 44_sys.md R162 and R164, 20_memory.md R70). `step` does not use it: the machine decodes a cycle into
operations and runs each one's meaning. The statements compare the two. -/

namespace Sys2Proof.Machine

open Sys2Proof

/-- `Delta(QT, q)`: the count change of a transition code (40_qdec.md R103 to R112). -/
def countChange (code : BitVec 4) (q : Draw) : Int :=
  match code.toNat with
  | 0b0010 | 0b1011 | 0b1101 | 0b0100 => 1
  | 0b0001 | 0b0111 | 0b1110 | 0b1000 => -1
  | 0b0011 | 0b0110 | 0b1001 | 0b1100 => q.toInt
  | _ => 0

/-- The codes in which both channels change (40_qdec.md R111). -/
def isDouble (code : BitVec 4) : Bool :=
  code.getLsbD 3 != code.getLsbD 1 && code.getLsbD 2 != code.getLsbD 0

/-- `QTrans(S, w, a, b, q)` (40_qdec.md R102), the draw taken only by a double transition (log 4). -/
def quadTransition (w : Wheel) (a b : Bool) (s : State) : State :=
  let code := (s.wheel w).code a b
  let moved := s.setWheel w
    ((s.wheel w).transition (countChange code (Config.qdblDraw w (s.draws w))) a b)
  if isDouble code then moved.useDraw w else moved

/-- `ExecCmd(code)` (44_sys.md R164). -/
def execCommand (code : BitVec 8) (s : State) : State :=
  match code.toNat with
  | 0x01 => s.kinSet
  | 0x02 => s.kinGet
  | 0x03 => { s with en := true }
  | 0x04 => { s with en := false }
  | 0x05 => { s with left := { s.left with count := 0 } }
  | 0x06 => { s with right := { s.right with count := 0 } }
  | _ => s

/-- A write at an offset of a wheel's block (44_sys.md R162). -/
def Channel.writeAt (c : Channel) (o : Nat) (v : Word) : Channel :=
  match o with
  | 0x05 => { c with kAng := v }
  | 0x06 => { c with radius := v }
  | 0x07 => c.setSetpoint v
  | 0x0D => { c with fC := v }
  | 0x0E => { c with kp := v }
  | 0x0F => { c with ki := v }
  | 0x10 => { c with kd := v }
  | _ => c

/-- `BusWrite(S, a, v)` (44_sys.md R162). -/
def busWrite (s : State) (a : RegIndex) (v : Word) : State :=
  if a.toNat < 0x40 then
    s.setWheel (wheelOfIndex a) ((s.wheel (wheelOfIndex a)).writeAt (a.toNat % 0x20) v)
  else
    match a.toNat with
    | 0x40 => execCommand (v.setWidth 8) s
    | 0x41 => { s with cmdLin := v }
    | 0x42 => { s with cmdAng := v }
    | 0x43 => { s with track := v }
    | _ => s

/-- Phase 1: both decoders (20_memory.md R70). -/
def phaseEdges (p : Input) (s : State) : State :=
  quadTransition .right p.encA1 p.encB1 (quadTransition .left p.encA0 p.encB0 s)

/-- Phase 2: at most one bus operation (20_memory.md R70). -/
def phaseBus (p : Input) (s : State) : State :=
  if p.busReq then
    if p.busWe then (busWrite s p.busAddr p.busWdata).drive 0 else s.drive (busRead s p.busAddr)
  else s.drive 0

/-- Phase 3: the sample ticks (20_memory.md R70). -/
def phaseSample (p : Input) (s : State) : State :=
  { s with
    left := if p.stick0 then s.left.sample else s.left
    right := if p.stick1 then s.right.sample else s.right }

/-- Phase 4: the control ticks (20_memory.md R70). -/
def phaseControl (p : Input) (s : State) : State :=
  { s with
    left := if p.ctick0 then s.left.control else s.left
    right := if p.ctick1 then s.right.control else s.right }

/-- `step(S, I, q)` as 20_memory.md R70 writes it. -/
def cycleByPhases (p : Input) (s : State) : State :=
  if p.rst then s.resetTo p.encA0 p.encB0 p.encA1 p.encB1
  else (phaseControl p (phaseSample p (phaseBus p (phaseEdges p s)))).strobes p

end Sys2Proof.Machine
end

