-- ==== Sys2Proof/Safety.lean ====
section
/-! DEFINITION. What the claims speak of: the invariants of 10_state.md R46, the states a run reaches, and
what one wheel may depend on. -/

namespace Sys2Proof.Machine

open Sys2Proof

/-- The invariants of one channel (10_state.md R46). -/
abbrev Channel.Legal (c : Channel) : Prop :=
  (-65536 ≤ s32 c.duty ∧ s32 c.duty ≤ 65536) ∧
  (c.motCmd = 0 ∨ c.motCmd = 1 ∨ c.motCmd = 2) ∧
  c.motMag.toNat ≤ 65536 ∧
  (c.motCmd = 0 → c.motMag = 0) ∧
  (c.mode = true →
    (c.motCmd = 1 ∨ c.motCmd = 2) ∧ c.motMag.toNat = (s32 c.duty).natAbs ∧
      (c.motCmd = 1 ↔ 0 ≤ s32 c.duty)) ∧
  (c.mode = false → c.motCmd = 0)

/-- The invariants of 10_state.md R46, of both wheels. -/
abbrev State.Legal (s : State) : Prop := s.left.Legal ∧ s.right.Legal

/-- The states of a run: the state after a reset cycle with any pin levels, with any input words to come,
and every state a step leads to from one (70_reset_and_hazards.md R202: "Every run a model considers begins
with a `RESET` cycle"). -/
inductive Reachable : State → Prop where
  | afterReset (s : State) (a0 b0 a1 b1 : Bool) : Reachable (s.resetTo a0 b0 a1 b1)
  | afterStep (s t : State) : Reachable s → step s = .next t → Reachable t

/-- The states that events reach in any interleaving: whole operations, the strobe bookkeeping of 20_memory.md R72 and the
passing of input words (00_scope.md R18, the event-level model; 20_memory.md R77). -/
inductive EventReachable : State → Prop where
  | afterReset (s : State) (a0 b0 a1 b1 : Bool) : EventReachable (s.resetTo a0 b0 a1 b1)
  | afterEvent (e : Event) (s t : State) : EventReachable s → eventStep e s = .next t → EventReachable t

/-- The bits of the input word that are wheel `w`'s own pins: its encoder levels, its control tick and its
sample tick (30_encoding.md R80: bits 47, 46, 44, 42 of the left wheel, 49, 48, 45, 43 of the right). -/
def ownPins : Wheel → InputWord
  | .left => pinAt true 47 ||| pinAt true 46 ||| pinAt true 44 ||| pinAt true 42
  | .right => pinAt true 49 ||| pinAt true 48 ||| pinAt true 45 ||| pinAt true 43

/-- The other wheel. -/
def otherWheel : Wheel → Wheel
  | .left => .right
  | .right => .left

/-- Two states that agree on all that wheel `w`'s future may depend on: its channel, the arguments of
`KIN_SET`, its draws and the coming input words but for the other wheel's own pins (60_exceptions.md R196). -/
def SameFor (w : Wheel) (s t : State) : Prop :=
  s.wheel w = t.wheel w ∧ s.cmdLin = t.cmdLin ∧ s.cmdAng = t.cmdAng ∧ s.track = t.track ∧
  s.draws w = t.draws w ∧ s.env.cycle = t.env.cycle ∧
  s.env.inputs.map (· &&& ~~~ownPins (otherWheel w)) = t.env.inputs.map (· &&& ~~~ownPins (otherWheel w))

/-- Two states that differ at most in `EN` and in what a read last returned (10_state.md R36). -/
def SameButEnable (s t : State) : Prop :=
  { t with en := s.en, busRdata := s.busRdata } = s

/-- A wheel's decoder samples the listed pin levels `(A, B)` one after another, each as the operation its
transition code selects (40_qdec.md R102). -/
def sampleLevels (w : Wheel) : List (Bool × Bool) → State → Host.Outcome State Fault Refusal
  | [], s => .next s
  | l :: rest, s =>
    match exec (decodeTransition w ((s.wheel w).code l.1 l.2)) s with
    | .next t => sampleLevels w rest t
    | .fault r => .fault r
    | .refused r => .refused r

/-- From the levels `l`, each listed pair differs from the one before in exactly one channel: a sequence of
single-edge transitions (40_qdec.md R100). -/
def OneChannelAtATime : Bool × Bool → List (Bool × Bool) → Prop
  | _, [] => True
  | l, m :: rest => ((l.1 ≠ m.1 ∧ l.2 = m.2) ∨ (l.1 = m.1 ∧ l.2 ≠ m.2)) ∧ OneChannelAtATime m rest

/-- The levels passed through on the way back along a path that started at `l`. -/
def wayBack (l : Bool × Bool) (path : List (Bool × Bool)) : List (Bool × Bool) := (l :: path).reverse.tail

end Sys2Proof.Machine
end

