-- ==== Sys2Proof/Certificates/Slice0/Obligations.lean ====
section
/-! DEFINITION. The statements for the provers, one definition each. -/

open Sys2Proof Sys2Proof.Machine

/-- Decode and encode agree on every well-formed operation (30_encoding.md R83, R88). -/
def Obligations.DecodeEncodeAgree : Prop :=
  ∀ i : Instr, i.WellFormed → decode (encode i) = i

/-- The decoder selects no operation outside the opcode map (30_encoding.md R88). -/
def Obligations.EveryCodeDecodesWellFormed : Prop :=
  (∀ c : Code, (decode c).WellFormed) ∧
    (∀ (q0 q1 : BitVec 4) (p : Input), ∀ i ∈ decodeCycle q0 q1 p, i.WellFormed) ∧
    (∀ (w : Wheel) (c : BitVec 4), encode (decodeTransition w c) = .qt w c)

/-- Ignored bits (30_encoding.md R81, R83; 70_reset_and_hazards.md R200). -/
def Obligations.IgnoredBitsSelectNothing : Prop :=
  ∀ p q : Input,
    (p.busReq = false → q.busReq = false → decodeBus p = decodeBus q) ∧
    (p.busReq = true → q.busReq = true → p.busWe = false → q.busWe = false → p.busAddr = q.busAddr →
      decodeBus p = decodeBus q) ∧
    (p.busReq = true → q.busReq = true → p.busWe = true → q.busWe = true → p.busAddr = 0x40#8 →
      q.busAddr = 0x40#8 → p.busWdata.setWidth 8 = q.busWdata.setWidth 8 → decodeBus p = decodeBus q) ∧
    (p.rst = true → q.rst = true → p.encA0 = q.encA0 → p.encB0 = q.encB0 → p.encA1 = q.encA1 →
      p.encB1 = q.encB1 → ∀ c0 c1 d0 d1 : BitVec 4, decodeCycle c0 c1 p = decodeCycle d0 d1 q)

/-- Words of 95_test_vectors.md P1 to P4 and codes of 30_encoding.md R88. That a 4-bit code is the left wheel's is the
model's choice (log 7), and so is the one operation by which a word is named (log 6). -/
def Obligations.SpecWordsDecode : Prop :=
  decodeTableWord 51 0x7430E00020000 = some (.reset true false true true) ∧
    decodeTableWord 51 0x00305003A5232 = some (.wrKAng0 0x003A5232#32) ∧
    decodeTableWord 51 0x0030600066666 = some (.wrRadius0 0x00066666#32) ∧
    decodeTableWord 51 0x0030700004CCD = some (.wrSetpoint0 0x00004CCD#32) ∧
    decodeTableWord 51 0x0034000000001 = some .kinSet ∧
    decodeTableWord 51 0x1834000000002 = some .kinGet ∧
    decodeTableWord 51 0x34340FFFFFF03 = some .enable ∧
    decodeTableWord 51 0x3422E00000000 = some .rdKp1 ∧
    decodeTableWord 51 0x0040000000000 = some .stick0 ∧
    decodeTableWord 51 0x0100000000000 = some .ctick0 ∧
    decodeTableWord 4 0b0010 = some (.qaR0 .left) ∧
    decodeTableWord 4 0b0110 = some (.qdbl0110 .left)

/-- A step runs the decoded operations (20_memory.md R70, 30_encoding.md R82, R88); that the words are listed in
the state, and that taking one leaves all but the model's own fields, is the model's (log 3). -/
def Obligations.StepRunsTheCyclesOperations : Prop :=
  ∀ s : State, ∀ p : Input, p = Input.ofWord s.nextWord →
    (p.rst = false → ∀ t : State,
      runOperations
        ([decodeTransition .left (transitionCode s.left.aQ s.left.bQ p.encA0 p.encB0),
          decodeTransition .right (transitionCode s.right.aQ s.right.bQ p.encA1 p.encB1), decodeBus p]
          ++ (if p.stick0 then [.stick0] else []) ++ (if p.stick1 then [.stick1] else [])
          ++ (if p.ctick0 then [.ctick0] else []) ++ (if p.ctick1 then [.ctick1] else [])) s.taken = .next t →
      step s = .next { t with
        left := { t.left with motStb := p.ctick0 }, right := { t.right with motStb := p.ctick1 } }) ∧
    (p.rst = true → step s = exec (.reset p.encA0 p.encB0 p.encA1 p.encB1) s.taken) ∧
    (∀ i rest, s.env.inputs = i :: rest → s.nextWord = i ∧ s.taken.env.inputs = rest) ∧
    s.taken = { s with env := s.taken.env }

/-- Fetched alone, an operation is what the step does (20_memory.md R70; the unmoved wheel takes `QNOP`, 40_qdec.md R112). -/
def Obligations.StepRunsALoneOperation : Prop :=
  (∀ (i : Instr) (s : State) (j : InputWord), i.WellFormed → (∀ a0 b0 a1 b1, i ≠ .reset a0 b0 a1 b1) →
      encode i = .input j →
      Input.ofWord s.nextWord = { Input.ofWord j with
        encA0 := s.left.aQ, encB0 := s.left.bQ, encA1 := s.right.aQ, encB1 := s.right.bQ } →
      ∃ t, exec i { s.taken with busRdata := 0 } = .next t ∧
        step s = .next { t with
          left := { t.left with motStb := (Input.ofWord j).ctick0 }
          right := { t.right with motStb := (Input.ofWord j).ctick1 } }) ∧
    (∀ (i : Instr) (s : State) (c : BitVec 4), encode i = .qt .left c →
      s.left.aQ = c.getLsbD 3 → s.left.bQ = c.getLsbD 2 →
      Input.ofWord s.nextWord = { Input.idle with
        encA0 := c.getLsbD 1, encB0 := c.getLsbD 0, encA1 := s.right.aQ, encB1 := s.right.bQ } →
      ∃ t, exec i s.taken = .next t ∧
        step s = .next { t with
          busRdata := 0, left := { t.left with motStb := false }, right := { t.right with motStb := false } }) ∧
    (∀ (i : Instr) (s : State) (c : BitVec 4), encode i = .qt .right c →
      s.right.aQ = c.getLsbD 3 → s.right.bQ = c.getLsbD 2 →
      Input.ofWord s.nextWord = { Input.idle with
        encA0 := s.left.aQ, encB0 := s.left.bQ, encA1 := c.getLsbD 1, encB1 := c.getLsbD 0 } →
      ∃ t, exec i s.taken = .next t ∧
        step s = .next { t with
          busRdata := 0, left := { t.left with motStb := false }, right := { t.right with motStb := false } })

/-- The order of operations within one clock cycle (20_memory.md R70), against the spec's pseudocode phase by phase; the
next input word and the draws stand in the state by the model's choice (log 3, log 4), and taking the word leaves every
register of the spec. -/
def Obligations.StepIsTheFivePhases : Prop :=
  ∀ s : State, step s = .next (cycleByPhases (Input.ofWord s.nextWord) s.taken) ∧
    s.taken = { s with env := s.taken.env }

/-- A model's step function is total (60_exceptions.md R180); a run never ends (00_scope.md R19). -/
def Obligations.EveryStepAnswersANextState : Prop :=
  (∀ (i : Instr) (s : State), ∃ t, exec i s = .next t) ∧ (∀ s : State, ∃ t, step s = .next t) ∧
    (∀ (n : Nat) (s : State), ∃ t, Host.Core.run Sys2Proof.core n s = .next t)

/-- The two wheels touch disjoint state in phases 1, 3 and 4 (20_memory.md R70). -/
def Obligations.WheelOrderIsUnobservable : Prop :=
  ∀ (c d : BitVec 4) (s : State),
    (∃ t, runOperations [decodeTransition .left c, decodeTransition .right d] s = .next t ∧
      runOperations [decodeTransition .right d, decodeTransition .left c] s = .next t) ∧
    (∃ t, runOperations [.stick0, .stick1] s = .next t ∧ runOperations [.stick1, .stick0] s = .next t) ∧
    (∃ t, runOperations [.ctick0, .ctick1] s = .next t ∧ runOperations [.ctick1, .ctick0] s = .next t)

/-- `MOT_STB[w]` after a step equals `ctick[w]` of that step's inputs, and 0 after a reset step (20_memory.md R72). -/
def Obligations.StrobeOutputShowsControlTick : Prop :=
  ∀ s t : State, step s = .next t → ∀ p : Input, p = Input.ofWord s.nextWord →
    t.outputs.motStb0 = (!p.rst && p.ctick0) ∧ t.outputs.motStb1 = (!p.rst && p.ctick1)

/-- What a read sees (20_memory.md R73). -/
def Obligations.ReadSeesTheStateAfterPhaseOne : Prop :=
  ∀ s t : State, step s = .next t → ∀ p : Input, p = Input.ofWord s.nextWord →
    p.rst = false → p.busReq = true → p.busWe = false →
    t.busRdata = busRead (phaseEdges p s.taken) p.busAddr ∧
    (p.busAddr = 0x00#8 → t.busRdata = t.left.count) ∧ (p.busAddr = 0x20#8 → t.busRdata = t.right.count) ∧
    (p.busAddr = 0x04#8 → t.busRdata = s.left.linVel) ∧ (p.busAddr = 0x24#8 → t.busRdata = s.right.linVel) ∧
    (p.busAddr = 0x11#8 → t.busRdata.getLsbD 3 = s.left.motStb) ∧
    (p.busAddr = 0x31#8 → t.busRdata.getLsbD 3 = s.right.motStb)

/-- `bus_rdata` in a cycle without a read (30_encoding.md R81). -/
def Obligations.WithoutAReadTheDataIsZero : Prop :=
  ∀ s t : State, step s = .next t → ∀ p : Input, p = Input.ofWord s.nextWord →
    (p.rst = true ∨ p.busReq = false ∨ p.busWe = true) → t.outputs.busRdata = 0

/-- One rule per row of the truth table (40_qdec.md R103 to R110), with the frame. -/
def Obligations.SingleEdgesCountByTheTable : Prop :=
  (∀ (w : Wheel) (s : State), decodeTransition w 0b0010#4 = .qaR0 w ∧
      exec (.qaR0 w) s = .next (s.setWheel w { s.wheel w with
        count := toReg (wrap32 (s32 (s.wheel w).count + 1)), aQ := true, bQ := false })) ∧
    (∀ (w : Wheel) (s : State), decodeTransition w 0b0111#4 = .qaR1 w ∧
      exec (.qaR1 w) s = .next (s.setWheel w { s.wheel w with
        count := toReg (wrap32 (s32 (s.wheel w).count - 1)), aQ := true, bQ := true })) ∧
    (∀ (w : Wheel) (s : State), decodeTransition w 0b1000#4 = .qaF0 w ∧
      exec (.qaF0 w) s = .next (s.setWheel w { s.wheel w with
        count := toReg (wrap32 (s32 (s.wheel w).count - 1)), aQ := false, bQ := false })) ∧
    (∀ (w : Wheel) (s : State), decodeTransition w 0b1101#4 = .qaF1 w ∧
      exec (.qaF1 w) s = .next (s.setWheel w { s.wheel w with
        count := toReg (wrap32 (s32 (s.wheel w).count + 1)), aQ := false, bQ := true })) ∧
    (∀ (w : Wheel) (s : State), decodeTransition w 0b0001#4 = .qbR0 w ∧
      exec (.qbR0 w) s = .next (s.setWheel w { s.wheel w with
        count := toReg (wrap32 (s32 (s.wheel w).count - 1)), aQ := false, bQ := true })) ∧
    (∀ (w : Wheel) (s : State), decodeTransition w 0b1011#4 = .qbR1 w ∧
      exec (.qbR1 w) s = .next (s.setWheel w { s.wheel w with
        count := toReg (wrap32 (s32 (s.wheel w).count + 1)), aQ := true, bQ := true })) ∧
    (∀ (w : Wheel) (s : State), decodeTransition w 0b0100#4 = .qbF0 w ∧
      exec (.qbF0 w) s = .next (s.setWheel w { s.wheel w with
        count := toReg (wrap32 (s32 (s.wheel w).count + 1)), aQ := false, bQ := false })) ∧
    (∀ (w : Wheel) (s : State), decodeTransition w 0b1110#4 = .qbF1 w ∧
      exec (.qbF1 w) s = .next (s.setWheel w { s.wheel w with
        count := toReg (wrap32 (s32 (s.wheel w).count - 1)), aQ := true, bQ := false }))

/-- Neither channel changed (40_qdec.md R112); the premises say that the code is the one formed from the state (30_encoding.md R82). -/
def Obligations.NoEdgeChangesNothing : Prop :=
  (∀ (w : Wheel) (s : State), (s.wheel w).aQ = false → (s.wheel w).bQ = false →
      decodeTransition w 0b0000#4 = .qnop0000 w ∧ exec (.qnop0000 w) s = .next s) ∧
    (∀ (w : Wheel) (s : State), (s.wheel w).aQ = false → (s.wheel w).bQ = true →
      decodeTransition w 0b0101#4 = .qnop0101 w ∧ exec (.qnop0101 w) s = .next s) ∧
    (∀ (w : Wheel) (s : State), (s.wheel w).aQ = true → (s.wheel w).bQ = false →
      decodeTransition w 0b1010#4 = .qnop1010 w ∧ exec (.qnop1010 w) s = .next s) ∧
    (∀ (w : Wheel) (s : State), (s.wheel w).aQ = true → (s.wheel w).bQ = true →
      decodeTransition w 0b1111#4 = .qnop1111 w ∧ exec (.qnop1111 w) s = .next s)

/-- Both channels change (40_qdec.md R111); the draw is free (log 4). -/
def Obligations.DoubleEdgeMovesByADraw : Prop :=
  ∀ (w : Wheel) (s : State),
    (decodeTransition w 0b0011#4 = .qdbl0011 w ∧ ∃ t d, exec (.qdbl0011 w) s = .next t ∧ (d = -2 ∨ d = 0 ∨ d = 2) ∧
      t.wheel w = { s.wheel w with
        count := toReg (wrap32 (s32 (s.wheel w).count + d)), aQ := true, bQ := true } ∧
      t.wheel (otherWheel w) = s.wheel (otherWheel w) ∧ t.draws w = s.draws w + 1 ∧
      t.draws (otherWheel w) = s.draws (otherWheel w) ∧ t.env.inputs = s.env.inputs ∧ t.env.cycle = s.env.cycle ∧
      { t with left := s.left, right := s.right, env := s.env } = s) ∧
    (decodeTransition w 0b0110#4 = .qdbl0110 w ∧ ∃ t d, exec (.qdbl0110 w) s = .next t ∧ (d = -2 ∨ d = 0 ∨ d = 2) ∧
      t.wheel w = { s.wheel w with
        count := toReg (wrap32 (s32 (s.wheel w).count + d)), aQ := true, bQ := false } ∧
      t.wheel (otherWheel w) = s.wheel (otherWheel w) ∧ t.draws w = s.draws w + 1 ∧
      t.draws (otherWheel w) = s.draws (otherWheel w) ∧ t.env.inputs = s.env.inputs ∧ t.env.cycle = s.env.cycle ∧
      { t with left := s.left, right := s.right, env := s.env } = s) ∧
    (decodeTransition w 0b1001#4 = .qdbl1001 w ∧ ∃ t d, exec (.qdbl1001 w) s = .next t ∧ (d = -2 ∨ d = 0 ∨ d = 2) ∧
      t.wheel w = { s.wheel w with
        count := toReg (wrap32 (s32 (s.wheel w).count + d)), aQ := false, bQ := true } ∧
      t.wheel (otherWheel w) = s.wheel (otherWheel w) ∧ t.draws w = s.draws w + 1 ∧
      t.draws (otherWheel w) = s.draws (otherWheel w) ∧ t.env.inputs = s.env.inputs ∧ t.env.cycle = s.env.cycle ∧
      { t with left := s.left, right := s.right, env := s.env } = s) ∧
    (decodeTransition w 0b1100#4 = .qdbl1100 w ∧ ∃ t d, exec (.qdbl1100 w) s = .next t ∧ (d = -2 ∨ d = 0 ∨ d = 2) ∧
      t.wheel w = { s.wheel w with
        count := toReg (wrap32 (s32 (s.wheel w).count + d)), aQ := false, bQ := false } ∧
      t.wheel (otherWheel w) = s.wheel (otherWheel w) ∧ t.draws w = s.draws w + 1 ∧
      t.draws (otherWheel w) = s.draws (otherWheel w) ∧ t.env.inputs = s.env.inputs ∧ t.env.cycle = s.env.cycle ∧
      { t with left := s.left, right := s.right, env := s.env } = s)

/-- The decoder step (40_qdec.md R102), over all 16 codes; which draw is taken is the model's (log 4). -/
def Obligations.TransitionIsQTrans : Prop :=
  ∀ (w : Wheel) (a b : Bool) (s : State),
    exec (decodeTransition w (transitionCode (s.wheel w).aQ (s.wheel w).bQ a b)) s = .next (quadTransition w a b s) ∧
    ((quadTransition w a b s).wheel w).aQ = a ∧ ((quadTransition w a b s).wheel w).bQ = b ∧
    ∃ q : Draw, (quadTransition w a b s).wheel w = { s.wheel w with
      count := toReg (wrap32 (s32 (s.wheel w).count +
        countChange (transitionCode (s.wheel w).aQ (s.wheel w).bQ a b) q)), aQ := a, bQ := b }

/-- The direction convention (40_qdec.md R114): forward is (A, B) to (not B, A), reverse is (A, B) to (B, not A). -/
def Obligations.ForwardAndReverseCycles : Prop :=
  ∀ (w : Wheel) (s : State),
    ((s.wheel w).aQ = false → (s.wheel w).bQ = false →
      sampleLevels w [(true, false), (true, true), (false, true), (false, false)] s =
        .next (s.setWheel w { s.wheel w with count := toReg (wrap32 (s32 (s.wheel w).count + 4)) }) ∧
      sampleLevels w [(false, true), (true, true), (true, false), (false, false)] s =
        .next (s.setWheel w { s.wheel w with count := toReg (wrap32 (s32 (s.wheel w).count - 4)) })) ∧
    sampleLevels w [(!(s.wheel w).bQ, (s.wheel w).aQ)] s =
      .next (s.setWheel w { s.wheel w with
        count := toReg (wrap32 (s32 (s.wheel w).count + 1)), aQ := !(s.wheel w).bQ, bQ := (s.wheel w).aQ }) ∧
    sampleLevels w [((s.wheel w).bQ, !(s.wheel w).aQ)] s =
      .next (s.setWheel w { s.wheel w with
        count := toReg (wrap32 (s32 (s.wheel w).count - 1)), aQ := (s.wheel w).bQ, bQ := !(s.wheel w).aQ })

/-- Decoder reversibility (40_qdec.md R115 (b)). -/
def Obligations.DecoderIsReversible : Prop :=
  ∀ (w : Wheel) (s : State) (path : List (Bool × Bool)),
    OneChannelAtATime ((s.wheel w).aQ, (s.wheel w).bQ) path →
    sampleLevels w (path ++ wayBack ((s.wheel w).aQ, (s.wheel w).bQ) path) s = .next s

/-- The decoder's `reset()` (40_qdec.md R113). -/
def Obligations.QrstZeroesTheCountAlone : Prop :=
  decodeCommand 0x05#8 = .qrst0 ∧ decodeCommand 0x06#8 = .qrst1 ∧ ∀ s : State,
    exec .qrst0 s = .next { s with left := { s.left with count := 0 }, busRdata := 0 } ∧
    exec .qrst1 s = .next { s with right := { s.right with count := 0 }, busRdata := 0 }

/-- The velocity estimator's tick (41_vest.md R120), with its frame. -/
def Obligations.StickSamplesTheVelocity : Prop :=
  ∀ s : State,
    (∀ ang, ang = sat32 (shr (wrap32 (s32 s.left.count - s32 s.left.prevCount) * s32 s.left.kAng) 8) →
      exec .stick0 s = .next { s with left := { s.left with
        prevCount := s.left.count, angVel := toReg ang
        linVel := toReg (sat32 (shr (ang * s32 s.left.radius) 24)) } }) ∧
    (∀ ang, ang = sat32 (shr (wrap32 (s32 s.right.count - s32 s.right.prevCount) * s32 s.right.kAng) 8) →
      exec .stick1 s = .next { s with right := { s.right with
        prevCount := s.right.count, angVel := toReg ang
        linVel := toReg (sat32 (shr (ang * s32 s.right.radius) 24)) } })

/-- The delta across a wrap of the counter (41_vest.md R122 (a), (c), (e); 40_qdec.md R116). -/
def Obligations.CountWrapDoesNotDisturbTheVelocity : Prop :=
  ∀ (s t : State) (n : Int), -2 ^ 31 ≤ n → n < 2 ^ 31 →
    (s.left.count = s.left.prevCount + toReg n → exec .stick0 s = .next t →
      t.left.angVel = toReg (sat32 (shr (n * s32 s.left.kAng) 8)) ∧
      ((n = 0 ∨ s.left.kAng = 0) → t.left.angVel = 0 ∧ t.left.linVel = 0) ∧
      (s.left.radius = 0 → t.left.linVel = 0)) ∧
    (s.right.count = s.right.prevCount + toReg n → exec .stick1 s = .next t →
      t.right.angVel = toReg (sat32 (shr (n * s32 s.right.kAng) 8)) ∧
      ((n = 0 ∨ s.right.kAng = 0) → t.right.angVel = 0 ∧ t.right.linVel = 0) ∧
      (s.right.radius = 0 → t.right.linVel = 0))

/-- The hazard of `QRST` between two sample ticks (70_reset_and_hazards.md R214). -/
def Obligations.QrstBetweenSamplesIsAFalseSample : Prop :=
  ∀ s : State,
    (∃ t u, runOperations [.qrst0, .stick0] s = .next t ∧ exec .stick0 t = .next u ∧
      t.left.angVel = toReg (sat32 (shr (wrap32 (-s32 s.left.prevCount) * s32 s.left.kAng) 8)) ∧
      t.left.prevCount = 0 ∧ u.left.angVel = 0 ∧ u.left.linVel = 0) ∧
    (∃ t u, runOperations [.qrst1, .stick1] s = .next t ∧ exec .stick1 t = .next u ∧
      t.right.angVel = toReg (sat32 (shr (wrap32 (-s32 s.right.prevCount) * s32 s.right.kAng) 8)) ∧
      t.right.prevCount = 0 ∧ u.right.angVel = 0 ∧ u.right.linVel = 0)

/-- The control tick (42_pid.md R130, R131, R133 to R136), both branches, with the frame; that the tick itself leaves
`MOT_STB` to the end of the cycle is the model's reading (log 8). -/
def Obligations.CtickIdlesOrRegulates : Prop :=
  ∀ s : State,
    (∀ e i d acc u, e = sat32 (s32 s.left.setpoint - s32 s.left.linVel) → i = sat32 (s32 s.left.integral + e) →
      d = sat32 (e - s32 s.left.prevErr) → acc = s32 s.left.kp * e + s32 s.left.ki * i + s32 s.left.kd * d →
      u = clamp (s32 s.left.duty + shr acc 16) (-65536) 65536 →
      exec .ctick0 s = .next (
        if s.left.setpoint = 0 ∨ u32 s.left.ticks > u32 s.left.fC then
          { s with left := { s.left with mode := false, motCmd := 0, motMag := 0, prevErr := 0 } }
        else
          { s with left := { s.left with
            mode := true, error := toReg e, integral := toReg i, prevErr := toReg e, duty := toReg u
            motCmd := if u ≥ 0 then 1 else 2
            motMag := BitVec.ofInt 17 (if u ≥ 0 then u else -u)
            ticks := BitVec.ofNat 32 (min (u32 s.left.ticks + 1) (2 ^ 32 - 1)) } })) ∧
    (∀ e i d acc u, e = sat32 (s32 s.right.setpoint - s32 s.right.linVel) → i = sat32 (s32 s.right.integral + e) →
      d = sat32 (e - s32 s.right.prevErr) → acc = s32 s.right.kp * e + s32 s.right.ki * i + s32 s.right.kd * d →
      u = clamp (s32 s.right.duty + shr acc 16) (-65536) 65536 →
      exec .ctick1 s = .next (
        if s.right.setpoint = 0 ∨ u32 s.right.ticks > u32 s.right.fC then
          { s with right := { s.right with mode := false, motCmd := 0, motMag := 0, prevErr := 0 } }
        else
          { s with right := { s.right with
            mode := true, error := toReg e, integral := toReg i, prevErr := toReg e, duty := toReg u
            motCmd := if u ≥ 0 then 1 else 2
            motMag := BitVec.ofInt 17 (if u ≥ 0 then u else -u)
            ticks := BitVec.ofNat 32 (min (u32 s.right.ticks + 1) (2 ^ 32 - 1)) } }))

/-- The clamped duty (42_pid.md R134) and the actuator command (R135) read off the stored registers. -/
def Obligations.MotorMagnitudeIsTheDutys : Prop :=
  ∀ s : State,
    (∀ e i d acc, e = sat32 (s32 s.left.setpoint - s32 s.left.linVel) → i = sat32 (s32 s.left.integral + e) →
      d = sat32 (e - s32 s.left.prevErr) → acc = s32 s.left.kp * e + s32 s.left.ki * i + s32 s.left.kd * d →
      s.left.setpoint ≠ 0 → u32 s.left.ticks ≤ u32 s.left.fC → ∃ t, exec .ctick0 s = .next t ∧
      s32 t.left.duty = clamp (s32 s.left.duty + shr acc 16) (-65536) 65536 ∧
      -65536 ≤ s32 t.left.duty ∧ s32 t.left.duty ≤ 65536 ∧ t.left.motMag.toNat = (s32 t.left.duty).natAbs ∧
      (0 ≤ s32 t.left.duty → t.left.motCmd = 1) ∧ (s32 t.left.duty < 0 → t.left.motCmd = 2) ∧ t.left.mode = true) ∧
    (∀ e i d acc, e = sat32 (s32 s.right.setpoint - s32 s.right.linVel) → i = sat32 (s32 s.right.integral + e) →
      d = sat32 (e - s32 s.right.prevErr) → acc = s32 s.right.kp * e + s32 s.right.ki * i + s32 s.right.kd * d →
      s.right.setpoint ≠ 0 → u32 s.right.ticks ≤ u32 s.right.fC → ∃ t, exec .ctick1 s = .next t ∧
      s32 t.right.duty = clamp (s32 s.right.duty + shr acc 16) (-65536) 65536 ∧
      -65536 ≤ s32 t.right.duty ∧ s32 t.right.duty ≤ 65536 ∧ t.right.motMag.toNat = (s32 t.right.duty).natAbs ∧
      (0 ≤ s32 t.right.duty → t.right.motCmd = 1) ∧ (s32 t.right.duty < 0 → t.right.motCmd = 2) ∧ t.right.mode = true)

/-- The stall window's timeline (42_pid.md R136). -/
def Obligations.StallTimeline : Prop :=
  ∀ s : State,
    (s.left.setpoint ≠ 0 → s.left.ticks = 0 →
      (u32 s.left.fC < 2 ^ 32 - 1 →
        (∀ k, k ≤ u32 s.left.fC + 1 → ∃ t, runOperations (List.replicate k .ctick0) s = .next t ∧
          u32 t.left.ticks = k ∧ (0 < k → t.left.mode = true)) ∧
        ∃ t, runOperations (List.replicate (u32 s.left.fC + 2) .ctick0) s = .next t ∧
          t.left.mode = false ∧ t.left.motCmd = 0 ∧ u32 t.left.ticks = u32 s.left.fC + 1) ∧
      (u32 s.left.fC = 2 ^ 32 - 1 → ∀ k, 0 < k → ∃ t, runOperations (List.replicate k .ctick0) s = .next t ∧
        t.left.mode = true)) ∧
    (s.right.setpoint ≠ 0 → s.right.ticks = 0 →
      (u32 s.right.fC < 2 ^ 32 - 1 →
        (∀ k, k ≤ u32 s.right.fC + 1 → ∃ t, runOperations (List.replicate k .ctick1) s = .next t ∧
          u32 t.right.ticks = k ∧ (0 < k → t.right.mode = true)) ∧
        ∃ t, runOperations (List.replicate (u32 s.right.fC + 2) .ctick1) s = .next t ∧
          t.right.mode = false ∧ t.right.motCmd = 0 ∧ u32 t.right.ticks = u32 s.right.fC + 1) ∧
      (u32 s.right.fC = 2 ^ 32 - 1 → ∀ k, 0 < k → ∃ t, runOperations (List.replicate k .ctick1) s = .next t ∧
        t.right.mode = true))

/-- The stall counter's bound (42_pid.md R136), a premise and a conclusion of one operation that does not lower `F_C`; and
what lowering `F_C` below the counter does (R136, 70_reset_and_hazards.md R216). -/
def Obligations.StallCounterStaysWithinTheWindow : Prop :=
  (∀ (i : Instr) (s t : State), (∀ v, i = .wrFC0 v → u32 s.left.fC ≤ u32 v) → (∀ v, i = .wrFC1 v → u32 s.right.fC ≤ u32 v) →
      u32 s.left.ticks ≤ u32 s.left.fC + 1 → u32 s.right.ticks ≤ u32 s.right.fC + 1 → exec i s = .next t →
      u32 t.left.ticks ≤ u32 t.left.fC + 1 ∧ u32 t.right.ticks ≤ u32 t.right.fC + 1) ∧
    (∀ (s : State) (v : Word), u32 v < u32 s.left.ticks → ∃ t, runOperations [.wrFC0 v, .ctick0] s = .next t ∧
      t.left.fC = v ∧ t.left.mode = false ∧ t.left.motCmd = 0 ∧ t.left.ticks = s.left.ticks) ∧
    (∀ (s : State) (v : Word), u32 v < u32 s.right.ticks → ∃ t, runOperations [.wrFC1 v, .ctick1] s = .next t ∧
      t.right.fC = v ∧ t.right.mode = false ∧ t.right.motCmd = 0 ∧ t.right.ticks = s.right.ticks)

/-- `SetSetpoint` through the port (42_pid.md R137, R138). -/
def Obligations.SetpointWrites : Prop :=
  ∀ (v : Word) (s : State),
    exec (.wrSetpoint0 v) s = .next (
      if v = s.left.setpoint then { s with busRdata := 0 }
      else { s with
        left := { s.left with setpoint := v, prevErr := 0, integral := 0, ticks := 0 }, busRdata := 0 }) ∧
    exec (.wrSetpoint1 v) s = .next (
      if v = s.right.setpoint then { s with busRdata := 0 }
      else { s with
        right := { s.right with setpoint := v, prevErr := 0, integral := 0, ticks := 0 }, busRdata := 0 })

/-- Leaving IDLE after a timeout (42_pid.md R132, 70_reset_and_hazards.md R218). -/
def Obligations.TimedOutWheelNeedsANewSetpoint : Prop :=
  ∀ (s : State) (v : Word),
    (s.left.setpoint ≠ 0 → u32 s.left.ticks > u32 s.left.fC →
      (∃ t, runOperations [.wrSetpoint0 s.left.setpoint, .ctick0] s = .next t ∧ t.left.mode = false) ∧
      (v ≠ 0 → v ≠ s.left.setpoint → ∃ t, runOperations [.wrSetpoint0 v, .ctick0] s = .next t ∧
        t.left.mode = true ∧ t.left.ticks = 1 ∧ t.left.setpoint = v)) ∧
    (s.right.setpoint ≠ 0 → u32 s.right.ticks > u32 s.right.fC →
      (∃ t, runOperations [.wrSetpoint1 s.right.setpoint, .ctick1] s = .next t ∧ t.right.mode = false) ∧
      (v ≠ 0 → v ≠ s.right.setpoint → ∃ t, runOperations [.wrSetpoint1 v, .ctick1] s = .next t ∧
        t.right.mode = true ∧ t.right.ticks = 1 ∧ t.right.setpoint = v))

/-- Phase 2 before phase 3 before phase 4 (20_memory.md R70; 42_pid.md R138, R140 (i)), for the setpoint's own write and
for `KIN_SET` (43_kin.md R151, 92_eei_decisions.md D21; log 9). -/
def Obligations.WriteAndSampleComeBeforeTheControlTick : Prop :=
  ∀ s t : State, step s = .next t → ∀ p : Input, p = Input.ofWord s.nextWord → p.rst = false →
    (p.ctick0 = true →
      (p.busReq = true → p.busWe = true → p.busAddr = 0x07#8 →
        (p.busWdata ≠ 0 → p.busWdata ≠ s.left.setpoint →
          t.left.mode = true ∧ t.left.setpoint = p.busWdata ∧ t.left.ticks = 1) ∧
        (p.busWdata = 0 →
          t.left.mode = false ∧ t.left.setpoint = 0 ∧ t.left.motCmd = 0 ∧ t.left.motMag = 0 ∧ t.left.prevErr = 0)) ∧
      (p.busReq = true → p.busWe = true → p.busAddr = 0x40#8 → p.busWdata.setWidth 8 = 0x01#8 →
        ∀ v, v = toReg (sat32 (s32 s.cmdLin - sat32 (shr (s32 s.cmdAng * s32 s.track) 17))) → t.left.setpoint = v ∧
          (v ≠ 0 → v ≠ s.left.setpoint → t.left.mode = true ∧ t.left.ticks = 1) ∧
          (v = 0 → t.left.mode = false ∧ t.left.motCmd = 0 ∧ t.left.motMag = 0 ∧ t.left.prevErr = 0)) ∧
      (t.left.mode = true → t.left.error = toReg (sat32 (s32 t.left.setpoint - s32 t.left.linVel)))) ∧
    (p.ctick1 = true →
      (p.busReq = true → p.busWe = true → p.busAddr = 0x27#8 →
        (p.busWdata ≠ 0 → p.busWdata ≠ s.right.setpoint →
          t.right.mode = true ∧ t.right.setpoint = p.busWdata ∧ t.right.ticks = 1) ∧
        (p.busWdata = 0 →
          t.right.mode = false ∧ t.right.setpoint = 0 ∧ t.right.motCmd = 0 ∧ t.right.motMag = 0 ∧ t.right.prevErr = 0)) ∧
      (p.busReq = true → p.busWe = true → p.busAddr = 0x40#8 → p.busWdata.setWidth 8 = 0x01#8 →
        ∀ v, v = toReg (sat32 (s32 s.cmdLin + sat32 (shr (s32 s.cmdAng * s32 s.track) 17))) → t.right.setpoint = v ∧
          (v ≠ 0 → v ≠ s.right.setpoint → t.right.mode = true ∧ t.right.ticks = 1) ∧
          (v = 0 → t.right.mode = false ∧ t.right.motCmd = 0 ∧ t.right.motMag = 0 ∧ t.right.prevErr = 0)) ∧
      (t.right.mode = true → t.right.error = toReg (sat32 (s32 t.right.setpoint - s32 t.right.linVel))))

/-- The incremental form (42_pid.md R142). -/
def Obligations.DutyAccumulatesTheIncrement : Prop :=
  ∀ (s : State) (n : Nat),
    (s.left.setpoint ≠ 0 → u32 s.left.ticks + n ≤ u32 s.left.fC + 1 → s.left.ki = 0 →
      -65536 ≤ s32 s.left.duty → s32 s.left.duty ≤ 65536 →
      ∀ e, e = sat32 (s32 s.left.setpoint - s32 s.left.linVel) → s32 s.left.prevErr = e →
      ∃ t, runOperations (List.replicate n .ctick0) s = .next t ∧
        s32 t.left.duty = clamp (s32 s.left.duty + n * shr (s32 s.left.kp * e) 16) (-65536) 65536) ∧
    (s.right.setpoint ≠ 0 → u32 s.right.ticks + n ≤ u32 s.right.fC + 1 → s.right.ki = 0 →
      -65536 ≤ s32 s.right.duty → s32 s.right.duty ≤ 65536 →
      ∀ e, e = sat32 (s32 s.right.setpoint - s32 s.right.linVel) → s32 s.right.prevErr = e →
      ∃ t, runOperations (List.replicate n .ctick1) s = .next t ∧
        s32 t.right.duty = clamp (s32 s.right.duty + n * shr (s32 s.right.kp * e) 16) (-65536) 65536)

/-- The inverse kinematics (43_kin.md R151; the half difference saturated, 92_eei_decisions.md D21; log 9). -/
def Obligations.KinSetWritesBothSetpoints : Prop :=
  ∀ (s : State) (h : Int) (vl vr : Word), h = sat32 (shr (s32 s.cmdAng * s32 s.track) 17) →
    vl = toReg (sat32 (s32 s.cmdLin - h)) → vr = toReg (sat32 (s32 s.cmdLin + h)) →
    exec .kinSet s = .next { s with
      left := if vl = s.left.setpoint then s.left
        else { s.left with setpoint := vl, prevErr := 0, integral := 0, ticks := 0 }
      right := if vr = s.right.setpoint then s.right
        else { s.right with setpoint := vr, prevErr := 0, integral := 0, ticks := 0 }
      busRdata := 0 }

/-- Where the half difference fits 32 bits, 43_kin.md R151's line, which does not saturate it, gives the same two
setpoints as 92_eei_decisions.md D21, which does (log 9). -/
def Obligations.KinSetWordingsAgreeInRange : Prop :=
  ∀ (s : State) (h : Int), h = shr (s32 s.cmdAng * s32 s.track) 17 → -2 ^ 31 ≤ h → h ≤ 2 ^ 31 - 1 →
    ∃ t, exec .kinSet s = .next t ∧
      t.left.setpoint = toReg (sat32 (s32 s.cmdLin - sat32 h)) ∧
      t.right.setpoint = toReg (sat32 (s32 s.cmdLin + sat32 h)) ∧
      (s32 t.left.setpoint = sat32 (s32 s.cmdLin - h) ∧ s32 t.right.setpoint = sat32 (s32 s.cmdLin + h))

/-- The forward kinematics (43_kin.md R153). -/
def Obligations.KinGetLatchesTheBodyVelocity : Prop :=
  ∀ (s : State) (num : Int), num = (s32 s.right.linVel - s32 s.left.linVel) * 65536 →
    exec .kinGet s = .next { s with
      bodyLin := toReg (shr (s32 s.left.linVel + s32 s.right.linVel) 1)
      bodyAng :=
        if s.track = 0 then (if num > 0 then 0x7FFFFFFF#32 else if num < 0 then 0x80000000#32 else 0)
        else toReg (sat32 (fdiv num (s32 s.track)))
      busRdata := 0 }

/-- The pair is inverse up to rounding (43_kin.md R156). -/
def Obligations.KinematicsRoundTrip : Prop :=
  ∀ (s t : State) (h : Int), h = shr (s32 s.cmdAng * s32 s.track) 17 → 0 < s32 s.track →
    -2 ^ 31 ≤ s32 s.cmdLin - h → s32 s.cmdLin - h ≤ 2 ^ 31 - 1 →
    -2 ^ 31 ≤ s32 s.cmdLin + h → s32 s.cmdLin + h ≤ 2 ^ 31 - 1 →
    exec .kinSet s = .next t → s.left.linVel = t.left.setpoint → s.right.linVel = t.right.setpoint →
    s32 t.left.setpoint + s32 t.right.setpoint = 2 * s32 s.cmdLin ∧
    ∃ u, exec .kinGet t = .next u ∧ u.bodyLin = s.cmdLin ∧ s32 u.bodyAng ≤ s32 s.cmdAng ∧
      (s32 s.cmdAng - s32 u.bodyAng) * s32 s.track < s32 s.track + 2 ^ 17

/-- The zero command (42_pid.md R141 (d)). -/
def Obligations.ZeroBodyCommandIdlesBothWheels : Prop :=
  ∀ s : State, s.cmdLin = 0 → s.cmdAng = 0 → ∃ t, runOperations [.kinSet, .ctick0, .ctick1] s = .next t ∧
    t.left.setpoint = 0 ∧ t.right.setpoint = 0 ∧ t.left.mode = false ∧ t.right.mode = false ∧
    t.left.motCmd = 0 ∧ t.right.motCmd = 0 ∧ t.left.motMag = 0 ∧ t.right.motMag = 0

/-- Reads of the per-wheel block (44_sys.md R161). -/
def Obligations.ReadsOfWheelRegisters : Prop :=
  ∀ s : State,
    exec .rdCount0 s = .next { s with busRdata := s.left.count } ∧
    exec .rdQstat0 s = .next { s with busRdata := (BitVec.ofBool s.left.bQ ++ BitVec.ofBool s.left.aQ).setWidth 32 } ∧
    exec .rdPrevCount0 s = .next { s with busRdata := s.left.prevCount } ∧
    exec .rdAngVel0 s = .next { s with busRdata := s.left.angVel } ∧
    exec .rdLinVel0 s = .next { s with busRdata := s.left.linVel } ∧
    exec .rdKAng0 s = .next { s with busRdata := s.left.kAng } ∧
    exec .rdRadius0 s = .next { s with busRdata := s.left.radius } ∧
    exec .rdSetpoint0 s = .next { s with busRdata := s.left.setpoint } ∧
    exec .rdError0 s = .next { s with busRdata := s.left.error } ∧
    exec .rdPrevErr0 s = .next { s with busRdata := s.left.prevErr } ∧
    exec .rdIntegral0 s = .next { s with busRdata := s.left.integral } ∧
    exec .rdDuty0 s = .next { s with busRdata := s.left.duty } ∧
    exec .rdTicks0 s = .next { s with busRdata := s.left.ticks } ∧
    exec .rdFC0 s = .next { s with busRdata := s.left.fC } ∧
    exec .rdKp0 s = .next { s with busRdata := s.left.kp } ∧
    exec .rdKi0 s = .next { s with busRdata := s.left.ki } ∧
    exec .rdKd0 s = .next { s with busRdata := s.left.kd } ∧
    exec .rdPstat0 s = .next { s with busRdata := (BitVec.ofBool s.left.motStb ++ s.left.motCmd ++ BitVec.ofBool s.left.mode).setWidth 32 } ∧
    exec .rdMotDuty0 s = .next { s with busRdata := s.left.motMag.setWidth 32 } ∧
    exec .rdCount1 s = .next { s with busRdata := s.right.count } ∧
    exec .rdQstat1 s = .next { s with busRdata := (BitVec.ofBool s.right.bQ ++ BitVec.ofBool s.right.aQ).setWidth 32 } ∧
    exec .rdPrevCount1 s = .next { s with busRdata := s.right.prevCount } ∧
    exec .rdAngVel1 s = .next { s with busRdata := s.right.angVel } ∧
    exec .rdLinVel1 s = .next { s with busRdata := s.right.linVel } ∧
    exec .rdKAng1 s = .next { s with busRdata := s.right.kAng } ∧
    exec .rdRadius1 s = .next { s with busRdata := s.right.radius } ∧
    exec .rdSetpoint1 s = .next { s with busRdata := s.right.setpoint } ∧
    exec .rdError1 s = .next { s with busRdata := s.right.error } ∧
    exec .rdPrevErr1 s = .next { s with busRdata := s.right.prevErr } ∧
    exec .rdIntegral1 s = .next { s with busRdata := s.right.integral } ∧
    exec .rdDuty1 s = .next { s with busRdata := s.right.duty } ∧
    exec .rdTicks1 s = .next { s with busRdata := s.right.ticks } ∧
    exec .rdFC1 s = .next { s with busRdata := s.right.fC } ∧
    exec .rdKp1 s = .next { s with busRdata := s.right.kp } ∧
    exec .rdKi1 s = .next { s with busRdata := s.right.ki } ∧
    exec .rdKd1 s = .next { s with busRdata := s.right.kd } ∧
    exec .rdPstat1 s = .next { s with busRdata := (BitVec.ofBool s.right.motStb ++ s.right.motCmd ++ BitVec.ofBool s.right.mode).setWidth 32 } ∧
    exec .rdMotDuty1 s = .next { s with busRdata := s.right.motMag.setWidth 32 }

/-- Reads of the global block and the catch-all (44_sys.md R161, 30_encoding.md R89). -/
def Obligations.ReadsOfGlobalRegistersAndUnmappedIndices : Prop :=
  ∀ s : State,
    exec .rdCmdLin s = .next { s with busRdata := s.cmdLin } ∧
    exec .rdCmdAng s = .next { s with busRdata := s.cmdAng } ∧
    exec .rdTrack s = .next { s with busRdata := s.track } ∧
    exec .rdBodyLin s = .next { s with busRdata := s.bodyLin } ∧
    exec .rdBodyAng s = .next { s with busRdata := s.bodyAng } ∧
    exec .rdGstat s = .next { s with busRdata := (BitVec.ofBool s.en).setWidth 32 } ∧
    ∀ a : RegIndex, readsZero a = true → decodeRead a = .rdZero a ∧ exec (.rdZero a) s = .next { s with busRdata := 0 }

/-- `RD a` over all 256 indices (44_sys.md R161). -/
def Obligations.ReadByIndexIsBusRead : Prop :=
  ∀ (a : RegIndex) (s : State), exec (decodeRead a) s = .next { s with busRdata := busRead s a } ∧
    ∀ p : Input, p.busReq = true → p.busWe = false → p.busAddr = a → decodeBus p = decodeRead a

/-- `WR a, v` over all 256 indices (44_sys.md R162), `ExecCmd` over all 256 codes (R164). -/
def Obligations.WriteByIndexIsBusWrite : Prop :=
  ∀ (a : RegIndex) (v : Word) (s : State),
    exec (decodeWrite a v) s = .next { busWrite s a v with busRdata := 0 } ∧
    ∀ p : Input, p.busReq = true → p.busWe = true → p.busAddr = a → p.busWdata = v → decodeBus p = decodeWrite a v

/-- Plain stores (44_sys.md R163). -/
def Obligations.PlainStoresReplaceTheirRegister : Prop :=
  ∀ (v : Word) (s : State),
    exec (.wrKAng0 v) s = .next { s with left := { s.left with kAng := v }, busRdata := 0 } ∧
    exec (.wrRadius0 v) s = .next { s with left := { s.left with radius := v }, busRdata := 0 } ∧
    exec (.wrFC0 v) s = .next { s with left := { s.left with fC := v }, busRdata := 0 } ∧
    exec (.wrKp0 v) s = .next { s with left := { s.left with kp := v }, busRdata := 0 } ∧
    exec (.wrKi0 v) s = .next { s with left := { s.left with ki := v }, busRdata := 0 } ∧
    exec (.wrKd0 v) s = .next { s with left := { s.left with kd := v }, busRdata := 0 } ∧
    exec (.wrKAng1 v) s = .next { s with right := { s.right with kAng := v }, busRdata := 0 } ∧
    exec (.wrRadius1 v) s = .next { s with right := { s.right with radius := v }, busRdata := 0 } ∧
    exec (.wrFC1 v) s = .next { s with right := { s.right with fC := v }, busRdata := 0 } ∧
    exec (.wrKp1 v) s = .next { s with right := { s.right with kp := v }, busRdata := 0 } ∧
    exec (.wrKi1 v) s = .next { s with right := { s.right with ki := v }, busRdata := 0 } ∧
    exec (.wrKd1 v) s = .next { s with right := { s.right with kd := v }, busRdata := 0 } ∧
    exec (.wrCmdLin v) s = .next { s with cmdLin := v, busRdata := 0 } ∧
    exec (.wrCmdAng v) s = .next { s with cmdAng := v, busRdata := 0 } ∧
    exec (.wrTrack v) s = .next { s with track := v, busRdata := 0 }

/-- The frame of a plain store, through reads of the register space (44_sys.md R163, 20_memory.md R68). -/
def Obligations.PlainStoreFrameOverTheRegisterSpace : Prop :=
  ∀ (a : RegIndex) (v : Word) (s : State),
    a.toNat ∈ [0x05, 0x06, 0x0D, 0x0E, 0x0F, 0x10, 0x25, 0x26, 0x2D, 0x2E, 0x2F, 0x30, 0x41, 0x42, 0x43] →
    ∃ t, exec (decodeWrite a v) s = .next t ∧ busRead t a = v ∧ ∀ b, b ≠ a → busRead t b = busRead s b

/-- Accesses without effect (30_encoding.md R81, R89, R90; 44_sys.md R165). -/
def Obligations.IgnoredWritesAndReservedCommands : Prop :=
  (∀ (a : RegIndex) (v : Word) (s : State), writeIgnored a = true →
      decodeWrite a v = .wrIgnored a v ∧ exec (.wrIgnored a v) s = .next { s with busRdata := 0 }) ∧
    (∀ (c : BitVec 8) (s : State), 0x07 ≤ c.toNat →
      decodeCommand c = .wrCmdReserved c ∧ exec (.wrCmdReserved c) s = .next { s with busRdata := 0 }) ∧
    (∀ s : State, decodeCommand 0x00#8 = .nop ∧ exec .nop s = .next { s with busRdata := 0 }) ∧
    (∀ s : State, exec .noBus s = .next { s with busRdata := 0 })

/-- Writes are idempotent (20_memory.md R66). -/
def Obligations.WritesAreIdempotent : Prop :=
  ∀ (a : RegIndex) (v : Word) (s : State), a ≠ 0x40#8 →
    ∃ t, exec (decodeWrite a v) s = .next t ∧ exec (decodeWrite a v) t = .next t

/-- Every bit of state is readable through some index (20_memory.md R62). -/
def Obligations.EveryBitOfStateIsReadable : Prop :=
  ∀ s t : State, (∀ a, busRead s a = busRead t a) →
    s.left = t.left ∧ s.right = t.right ∧ s.cmdLin = t.cmdLin ∧ s.cmdAng = t.cmdAng ∧ s.track = t.track ∧
    s.bodyLin = t.bodyLin ∧ s.bodyAng = t.bodyAng ∧ s.en = t.en

/-- The standby line (44_sys.md R166, R167). -/
def Obligations.EnableAndDisable : Prop :=
  decodeCommand 0x03#8 = .enable ∧ decodeCommand 0x04#8 = .disable ∧ ∀ s : State,
    exec .enable s = .next { s with en := true, busRdata := 0 } ∧
    exec .disable s = .next { s with en := false, busRdata := 0 } ∧ s.outputs.drvEn = s.en

/-- `EN` drives `drv_en` "and nothing else" (10_state.md R36), and a read of `GSTAT` shows it. The free draws and the free
inputs of the two runs are the same (log 3, log 4). -/
def Obligations.EnableGatesNothingInside : Prop :=
  (∀ (n : Nat) (s t s1 t1 : State), SameButEnable s t → Host.Core.run Sys2Proof.core n s = .next s1 →
      Host.Core.run Sys2Proof.core n t = .next t1 → SameButEnable s1 t1) ∧
    (∀ (s t s1 t1 : State) (p : Input), SameButEnable s t → step s = .next s1 → step t = .next t1 →
      p = Input.ofWord s.nextWord →
      ¬ (p.rst = false ∧ p.busReq = true ∧ p.busWe = false ∧ p.busAddr = 0x46#8) →
      s1.busRdata = t1.busRdata ∧ s1.outputs = { t1.outputs with drvEn := s1.en })

/-- Reset (70_reset_and_hazards.md R200, R201; 10_state.md R48); that the model's own fields
are kept is the model's choice (log 3, log 4). -/
def Obligations.ResetLeavesTheResetState : Prop :=
  ∀ (s : State) (ch : Bool → Bool → Channel),
    (∀ a b, ch a b =
      { aQ := a, bQ := b, count := 0, prevCount := 0, angVel := 0, linVel := 0, kAng := 0, radius := 0,
        setpoint := 0, error := 0, prevErr := 0, integral := 0, duty := 0, ticks := 0, fC := 50, kp := 78643,
        ki := 0, kd := 78643, mode := false, motCmd := 0, motMag := 0, motStb := false }) →
    (∀ a0 b0 a1 b1, exec (.reset a0 b0 a1 b1) s = .next
      { left := ch a0 b0, right := ch a1 b1, cmdLin := 0, cmdAng := 0, track := 0, bodyLin := 0, bodyAng := 0,
        en := false, busRdata := 0, env := s.env }) ∧
    (∀ p : Input, p = Input.ofWord s.nextWord → p.rst = true → step s = .next
      { left := ch p.encA0 p.encB0, right := ch p.encA1 p.encB1, cmdLin := 0, cmdAng := 0, track := 0,
        bodyLin := 0, bodyAng := 0, en := false, busRdata := 0, env := s.taken.env })

/-- Reset values (10_state.md R48); the stored levels are the model's choice (log 1: pins low, DESIGN CHOICE). -/
def Obligations.ResetValuesOfTheRegisters : Prop :=
  ∀ a : RegIndex, busRead State.reset a =
    if a = 0x0D#8 ∨ a = 0x2D#8 then 50 else if a = 0x0E#8 ∨ a = 0x2E#8 ∨ a = 0x10#8 ∨ a = 0x30#8 then 78643 else 0

/-- The base case of 10_state.md R46. -/
def Obligations.ResetStateIsLegal : Prop :=
  State.reset.Legal ∧ ∀ (s t : State) (a0 b0 a1 b1 : Bool), exec (.reset a0 b0 a1 b1) s = .next t → t.Legal

/-- The inductive step of 10_state.md R46, per operation (the event-level model of 00_scope.md R18). -/
def Obligations.EveryOperationKeepsTheInvariants : Prop :=
  ∀ (i : Instr) (s t : State), s.Legal → exec i s = .next t → t.Legal

/-- The inductive step of 10_state.md R46, per clock cycle. -/
def Obligations.StepKeepsTheInvariants : Prop :=
  ∀ s t : State, s.Legal → step s = .next t → t.Legal

/-- Invariants that hold in every reachable state (10_state.md R46), of both models of 00_scope.md R18. -/
def Obligations.ReachableStatesAreLegal : Prop :=
  (∀ s : State, Reachable s → s.Legal) ∧ (∀ s : State, EventReachable s → s.Legal)

/-- The event-level model admits every run of the cycle-level one and more (00_scope.md R18, 20_memory.md R77): a cycle
is the passing of its input word (the model's own event, log 3), its operations in the order of 20_memory.md R70 and the
strobe bookkeeping of R72. The last clause is "and more": a strobe may be set where no control tick left it (log 8). -/
def Obligations.EventLevelAdmitsEveryCycleLevelRun : Prop :=
  (∀ (s t : State) (p : Input), p = Input.ofWord s.nextWord → step s = .next t →
      runEvents (s.cycleEvents p) s = .next t ∧
      (p.rst = false → t.left.motStb = p.ctick0 ∧ t.right.motStb = p.ctick1) ∧
      (p.rst = true → t.left.motStb = false ∧ t.right.motStb = false)) ∧
    (∀ (n : Nat) (s t : State), Host.Core.run Sys2Proof.core n s = .next t → ∃ es, runEvents es s = .next t) ∧
    (∀ s : State, Reachable s → EventReachable s) ∧ (∃ s : State, EventReachable s ∧ ¬ Reachable s)

/-- The channels are independent but for the global registers (60_exceptions.md R196, 10_state.md R47). Two runs share
the free draws and free inputs of the same index (log 3, log 4). -/
def Obligations.WheelsAreIndependent : Prop :=
  ∀ (w : Wheel) (n : Nat) (s t s1 t1 : State), SameFor w s t → Host.Core.run Sys2Proof.core n s = .next s1 →
    Host.Core.run Sys2Proof.core n t = .next t1 → SameFor w s1 t1

/-- Who writes what (10_state.md R33), wheel 0, over all operations. -/
def Obligations.WritersOfLeftWheelRegisters : Prop :=
  ∀ (i : Instr) (s t : State), exec i s = .next t → (∀ a0 b0 a1 b1, i ≠ .reset a0 b0 a1 b1) →
    t.left.motStb = s.left.motStb ∧
    ((∀ c, encode i ≠ .qt .left c) → t.left.aQ = s.left.aQ ∧ t.left.bQ = s.left.bQ ∧
      (i ≠ .qrst0 → t.left.count = s.left.count)) ∧
    (i ≠ .stick0 → t.left.prevCount = s.left.prevCount ∧ t.left.angVel = s.left.angVel ∧ t.left.linVel = s.left.linVel) ∧
    (i ≠ .ctick0 →
      t.left.error = s.left.error ∧ t.left.duty = s.left.duty ∧ t.left.mode = s.left.mode ∧
      t.left.motCmd = s.left.motCmd ∧ t.left.motMag = s.left.motMag ∧
      ((∀ v, i ≠ .wrSetpoint0 v) → i ≠ .kinSet →
        t.left.prevErr = s.left.prevErr ∧ t.left.integral = s.left.integral ∧ t.left.ticks = s.left.ticks)) ∧
    ((∀ v, i ≠ .wrSetpoint0 v) → i ≠ .kinSet → t.left.setpoint = s.left.setpoint) ∧
    ((∀ v, i ≠ .wrKAng0 v) → t.left.kAng = s.left.kAng) ∧ ((∀ v, i ≠ .wrRadius0 v) → t.left.radius = s.left.radius) ∧
    ((∀ v, i ≠ .wrFC0 v) → t.left.fC = s.left.fC) ∧ ((∀ v, i ≠ .wrKp0 v) → t.left.kp = s.left.kp) ∧
    ((∀ v, i ≠ .wrKi0 v) → t.left.ki = s.left.ki) ∧ ((∀ v, i ≠ .wrKd0 v) → t.left.kd = s.left.kd)

/-- Who writes what (10_state.md R33), wheel 1, over all operations. -/
def Obligations.WritersOfRightWheelRegisters : Prop :=
  ∀ (i : Instr) (s t : State), exec i s = .next t → (∀ a0 b0 a1 b1, i ≠ .reset a0 b0 a1 b1) →
    t.right.motStb = s.right.motStb ∧
    ((∀ c, encode i ≠ .qt .right c) → t.right.aQ = s.right.aQ ∧ t.right.bQ = s.right.bQ ∧
      (i ≠ .qrst1 → t.right.count = s.right.count)) ∧
    (i ≠ .stick1 → t.right.prevCount = s.right.prevCount ∧ t.right.angVel = s.right.angVel ∧ t.right.linVel = s.right.linVel) ∧
    (i ≠ .ctick1 →
      t.right.error = s.right.error ∧ t.right.duty = s.right.duty ∧ t.right.mode = s.right.mode ∧
      t.right.motCmd = s.right.motCmd ∧ t.right.motMag = s.right.motMag ∧
      ((∀ v, i ≠ .wrSetpoint1 v) → i ≠ .kinSet →
        t.right.prevErr = s.right.prevErr ∧ t.right.integral = s.right.integral ∧ t.right.ticks = s.right.ticks)) ∧
    ((∀ v, i ≠ .wrSetpoint1 v) → i ≠ .kinSet → t.right.setpoint = s.right.setpoint) ∧
    ((∀ v, i ≠ .wrKAng1 v) → t.right.kAng = s.right.kAng) ∧ ((∀ v, i ≠ .wrRadius1 v) → t.right.radius = s.right.radius) ∧
    ((∀ v, i ≠ .wrFC1 v) → t.right.fC = s.right.fC) ∧ ((∀ v, i ≠ .wrKp1 v) → t.right.kp = s.right.kp) ∧
    ((∀ v, i ≠ .wrKi1 v) → t.right.ki = s.right.ki) ∧ ((∀ v, i ≠ .wrKd1 v) → t.right.kd = s.right.kd)

/-- Who writes what (10_state.md R33), the global registers. The clause on `env.inputs` and `env.cycle` is the model's
(log 3). -/
def Obligations.WritersOfGlobalRegisters : Prop :=
  ∀ (i : Instr) (s t : State), exec i s = .next t → (∀ a0 b0 a1 b1, i ≠ .reset a0 b0 a1 b1) →
    ((∀ v, i ≠ .wrCmdLin v) → t.cmdLin = s.cmdLin) ∧ ((∀ v, i ≠ .wrCmdAng v) → t.cmdAng = s.cmdAng) ∧
    ((∀ v, i ≠ .wrTrack v) → t.track = s.track) ∧
    (i ≠ .kinGet → t.bodyLin = s.bodyLin ∧ t.bodyAng = s.bodyAng) ∧
    (i ≠ .enable → i ≠ .disable → t.en = s.en) ∧
    t.env.inputs = s.env.inputs ∧ t.env.cycle = s.env.cycle
end

