-- ==== Sys2Proof/Laws/Arith.lean ====
section
/-! SUPPORT. What the arithmetic primitives of 00_scope.md R7 to R13 answer. -/

namespace Sys2Proof.Machine

open Sys2Proof

theorem s32_lower (p : Word) : -2 ^ 31 ≤ s32 p := by
  have := BitVec.le_toInt p
  unfold s32; omega

theorem s32_upper (p : Word) : s32 p ≤ 2 ^ 31 - 1 := by
  have := BitVec.toInt_lt (x := p)
  unfold s32; omega

theorem u32_lt (p : Word) : u32 p < 2 ^ 32 := p.isLt

@[simp] theorem s32_zero : s32 0#32 = 0 := by decide

/-- Two patterns with one signed reading are the same pattern. -/
theorem s32_injective {p q : Word} (h : s32 p = s32 q) : p = q := BitVec.eq_of_toInt_eq h

@[simp] theorem s32_eq_zero_iff (p : Word) : s32 p = 0 ↔ p = 0 :=
  ⟨fun h => s32_injective (h.trans s32_zero.symm), fun h => h ▸ s32_zero⟩

/-- Storing an integer of the signed range and reading it back gives the integer (00_scope.md R8). -/
theorem s32_toReg {z : Int} (lo : -2 ^ 31 ≤ z) (hi : z ≤ 2 ^ 31 - 1) : s32 (toReg z) = z := by
  unfold s32 toReg
  rw [BitVec.toInt_ofInt]
  exact Int.bmod_eq_of_le (by omega) (by omega)

/-- Storing any integer keeps it modulo 2^32. -/
theorem s32_toReg_eq_wrap32 (z : Int) : s32 (toReg z) = wrap32 z := by
  simp [s32, toReg, wrap32, BitVec.toInt_ofInt]

@[simp] theorem toReg_s32 (p : Word) : toReg (s32 p) = p := by
  simp [toReg, s32]

@[simp] theorem toReg_wrap32 (z : Int) : toReg (wrap32 z) = toReg z := by
  apply s32_injective
  simp [s32_toReg_eq_wrap32, wrap32]

/-- `toReg` carries integer addition to addition of patterns. -/
theorem toReg_add (x y : Int) : toReg (x + y) = toReg x + toReg y := by
  simp [toReg, BitVec.ofInt_add]

theorem sat32_lower (z : Int) : -2 ^ 31 ≤ sat32 z := by unfold sat32; split_ifs <;> omega

theorem sat32_upper (z : Int) : sat32 z ≤ 2 ^ 31 - 1 := by unfold sat32; split_ifs <;> omega

theorem sat32_of_range {z : Int} (lo : -2 ^ 31 ≤ z) (hi : z ≤ 2 ^ 31 - 1) : sat32 z = z := by
  unfold sat32; split_ifs <;> omega

theorem sat32_mono {x y : Int} (h : x ≤ y) : sat32 x ≤ sat32 y := by
  unfold sat32; split_ifs <;> omega

@[simp] theorem sat32_zero : sat32 0 = 0 := by decide

@[simp] theorem s32_toReg_sat32 (z : Int) : s32 (toReg (sat32 z)) = sat32 z :=
  s32_toReg (sat32_lower z) (sat32_upper z)

theorem clamp_lower {z lo hi : Int} (h : lo ≤ hi) : lo ≤ clamp z lo hi := by
  unfold clamp; split_ifs <;> omega

theorem clamp_upper {z lo hi : Int} (h : lo ≤ hi) : clamp z lo hi ≤ hi := by
  unfold clamp; split_ifs <;> omega

theorem clamp_of_range {z lo hi : Int} (h : lo ≤ z) (h' : z ≤ hi) : clamp z lo hi = z := by
  unfold clamp; split_ifs <;> omega

/-- `shr` is the floor: the greatest integer not above the exact quotient (00_scope.md R11). -/
theorem shr_eq_iff (z : Int) (n : Nat) (q : Int) :
    shr z n = q ↔ q * 2 ^ n ≤ z ∧ z < (q + 1) * 2 ^ n := by
  have pos : (0 : Int) < 2 ^ n := by positivity
  unfold shr
  rw [Int.ediv_eq_iff_of_pos pos]
  constructor <;> rintro ⟨h, h'⟩ <;> constructor <;> nlinarith

@[simp] theorem shr_zero (n : Nat) : shr 0 n = 0 := by simp [shr]

/-- `shr` is `fdiv` by the power of two. -/
theorem shr_eq_fdiv (z : Int) (n : Nat) : shr z n = fdiv z (2 ^ n) := by
  unfold shr fdiv
  rw [Int.fdiv_eq_ediv_of_nonneg _ (by positivity)]

end Sys2Proof.Machine
end

