-- ==== Sys2Proof/Laws/Decode.lean ====
section
/-! SUPPORT. The input word's fields and its bits. -/

namespace Sys2Proof

/-- A pin's word has the pin's level at its place and 0 elsewhere. -/
theorem getLsbD_pinAt (b : Bool) (k i : Nat) :
    (pinAt b k).getLsbD i = (decide (i < 51) && decide (i = k) && b) := by
  unfold pinAt
  rcases Nat.lt_trichotomy i k with h | h | h
  · simp [h, Nat.ne_of_lt h]
  · subst h; simp
  · have hne : i - k ≠ 0 := by omega
    simp [BitVec.getLsbD_ofBool, hne, Nat.ne_of_gt h]

theorem getElem_pinAt (b : Bool) (k i : Nat) (h : i < 51) :
    (pinAt b k)[i] = (decide (i = k) && b) := by
  rw [← BitVec.getLsbD_eq_getElem, getLsbD_pinAt]; simp [h]

/-- The fields of a word built from fields are those fields (30_encoding.md R80). -/
@[simp] theorem Input.ofWord_toWord (p : Input) : Input.ofWord p.toWord = p := by
  obtain ⟨rst, b1, a1, b0, a0, c1, c0, s1, s0, req, we, addr, data⟩ := p
  simp only [Input.ofWord, Input.toWord, Input.mk.injEq]
  refine ⟨?_, ?_, ?_, ?_, ?_, ?_, ?_, ?_, ?_, ?_, ?_, ?_, ?_⟩
  case refine_12 =>
    apply BitVec.eq_of_getLsbD_eq
    intro k hk
    have h : ∀ n, 40 ≤ n → 32 + k ≠ n := by omega
    simp [getElem_pinAt, h, hk, show 32 + k < 51 by omega]
  case refine_13 =>
    apply BitVec.eq_of_getLsbD_eq
    intro k hk
    have h : ∀ n, 40 ≤ n → k ≠ n := by omega
    simp [getElem_pinAt, h, hk, show k < 51 by omega]
  all_goals simp [getElem_pinAt]

/-- A word is the word of its fields. -/
@[simp] theorem Input.toWord_ofWord (i : InputWord) : (Input.ofWord i).toWord = i := by
  apply BitVec.eq_of_getLsbD_eq
  intro k hk
  simp only [Input.toWord, Input.ofWord, BitVec.getLsbD_or, getLsbD_pinAt, BitVec.getLsbD_shiftLeft,
    BitVec.getLsbD_setWidth, BitVec.getLsbD_extractLsb', hk, decide_true, Bool.true_and]
  rcases Nat.lt_or_ge k 32 with h | h
  · have hn : ∀ n, 40 ≤ n → k ≠ n := by omega
    simp [h, hn]
  · rcases Nat.lt_or_ge k 40 with h' | h'
    · have hn : ∀ n, 40 ≤ n → k ≠ n := by omega
      simp [hn, show k - 32 < 8 by omega, show k - 32 < 51 by omega, Nat.not_lt.mpr h,
        show 32 + (k - 32) = k by omega]
    · interval_cases k <;> simp

/-- Two words with the same fields are the same word. -/
theorem Input.ofWord_injective {i j : InputWord} (h : Input.ofWord i = Input.ofWord j) : i = j := by
  rw [← Input.toWord_ofWord i, h, Input.toWord_ofWord]

/-- A wheel's four level bits, back from the code (30_encoding.md R82). -/
theorem getLsbD_transitionCode (aQ bQ a b : Bool) :
    (transitionCode aQ bQ a b).getLsbD 3 = aQ ∧ (transitionCode aQ bQ a b).getLsbD 2 = bQ ∧
      (transitionCode aQ bQ a b).getLsbD 1 = a ∧ (transitionCode aQ bQ a b).getLsbD 0 = b := by
  revert aQ bQ a b; decide

@[simp] theorem decode_qt (w : Wheel) (c : BitVec 4) : decode (.qt w c) = decodeTransition w c := rfl

@[simp] theorem decode_input_toWord (p : Input) : decode (.input p.toWord) = decodeInput p := by
  simp [decode]

end Sys2Proof
end

