-- ==== Sys2Proof/Laws/State.lean ====
section
/-! SUPPORT. One lemma per field per update: what each shared operation leaves in each register. -/

namespace Sys2Proof.Machine

open Sys2Proof

/-! Channel updates. -/

section
variable (c : Channel)

@[simp] theorem Channel.transition_aQ (d : Int) (a b : Bool) : (c.transition d a b).aQ = a := rfl
@[simp] theorem Channel.transition_bQ (d : Int) (a b : Bool) : (c.transition d a b).bQ = b := rfl
@[simp] theorem Channel.transition_count (d : Int) (a b : Bool) : (c.transition d a b).count = toReg (wrap32 (s32 c.count + d)) := rfl
@[simp] theorem Channel.transition_prevCount (d : Int) (a b : Bool) : (c.transition d a b).prevCount = c.prevCount := rfl
@[simp] theorem Channel.transition_angVel (d : Int) (a b : Bool) : (c.transition d a b).angVel = c.angVel := rfl
@[simp] theorem Channel.transition_linVel (d : Int) (a b : Bool) : (c.transition d a b).linVel = c.linVel := rfl
@[simp] theorem Channel.transition_kAng (d : Int) (a b : Bool) : (c.transition d a b).kAng = c.kAng := rfl
@[simp] theorem Channel.transition_radius (d : Int) (a b : Bool) : (c.transition d a b).radius = c.radius := rfl
@[simp] theorem Channel.transition_setpoint (d : Int) (a b : Bool) : (c.transition d a b).setpoint = c.setpoint := rfl
@[simp] theorem Channel.transition_error (d : Int) (a b : Bool) : (c.transition d a b).error = c.error := rfl
@[simp] theorem Channel.transition_prevErr (d : Int) (a b : Bool) : (c.transition d a b).prevErr = c.prevErr := rfl
@[simp] theorem Channel.transition_integral (d : Int) (a b : Bool) : (c.transition d a b).integral = c.integral := rfl
@[simp] theorem Channel.transition_duty (d : Int) (a b : Bool) : (c.transition d a b).duty = c.duty := rfl
@[simp] theorem Channel.transition_ticks (d : Int) (a b : Bool) : (c.transition d a b).ticks = c.ticks := rfl
@[simp] theorem Channel.transition_fC (d : Int) (a b : Bool) : (c.transition d a b).fC = c.fC := rfl
@[simp] theorem Channel.transition_kp (d : Int) (a b : Bool) : (c.transition d a b).kp = c.kp := rfl
@[simp] theorem Channel.transition_ki (d : Int) (a b : Bool) : (c.transition d a b).ki = c.ki := rfl
@[simp] theorem Channel.transition_kd (d : Int) (a b : Bool) : (c.transition d a b).kd = c.kd := rfl
@[simp] theorem Channel.transition_mode (d : Int) (a b : Bool) : (c.transition d a b).mode = c.mode := rfl
@[simp] theorem Channel.transition_motCmd (d : Int) (a b : Bool) : (c.transition d a b).motCmd = c.motCmd := rfl
@[simp] theorem Channel.transition_motMag (d : Int) (a b : Bool) : (c.transition d a b).motMag = c.motMag := rfl
@[simp] theorem Channel.transition_motStb (d : Int) (a b : Bool) : (c.transition d a b).motStb = c.motStb := rfl

@[simp] theorem Channel.zeroCount_aQ : c.zeroCount.aQ = c.aQ := rfl
@[simp] theorem Channel.zeroCount_bQ : c.zeroCount.bQ = c.bQ := rfl
@[simp] theorem Channel.zeroCount_count : c.zeroCount.count = 0 := rfl
@[simp] theorem Channel.zeroCount_prevCount : c.zeroCount.prevCount = c.prevCount := rfl
@[simp] theorem Channel.zeroCount_angVel : c.zeroCount.angVel = c.angVel := rfl
@[simp] theorem Channel.zeroCount_linVel : c.zeroCount.linVel = c.linVel := rfl
@[simp] theorem Channel.zeroCount_kAng : c.zeroCount.kAng = c.kAng := rfl
@[simp] theorem Channel.zeroCount_radius : c.zeroCount.radius = c.radius := rfl
@[simp] theorem Channel.zeroCount_setpoint : c.zeroCount.setpoint = c.setpoint := rfl
@[simp] theorem Channel.zeroCount_error : c.zeroCount.error = c.error := rfl
@[simp] theorem Channel.zeroCount_prevErr : c.zeroCount.prevErr = c.prevErr := rfl
@[simp] theorem Channel.zeroCount_integral : c.zeroCount.integral = c.integral := rfl
@[simp] theorem Channel.zeroCount_duty : c.zeroCount.duty = c.duty := rfl
@[simp] theorem Channel.zeroCount_ticks : c.zeroCount.ticks = c.ticks := rfl
@[simp] theorem Channel.zeroCount_fC : c.zeroCount.fC = c.fC := rfl
@[simp] theorem Channel.zeroCount_kp : c.zeroCount.kp = c.kp := rfl
@[simp] theorem Channel.zeroCount_ki : c.zeroCount.ki = c.ki := rfl
@[simp] theorem Channel.zeroCount_kd : c.zeroCount.kd = c.kd := rfl
@[simp] theorem Channel.zeroCount_mode : c.zeroCount.mode = c.mode := rfl
@[simp] theorem Channel.zeroCount_motCmd : c.zeroCount.motCmd = c.motCmd := rfl
@[simp] theorem Channel.zeroCount_motMag : c.zeroCount.motMag = c.motMag := rfl
@[simp] theorem Channel.zeroCount_motStb : c.zeroCount.motStb = c.motStb := rfl

@[simp] theorem Channel.sample_aQ : c.sample.aQ = c.aQ := rfl
@[simp] theorem Channel.sample_bQ : c.sample.bQ = c.bQ := rfl
@[simp] theorem Channel.sample_count : c.sample.count = c.count := rfl
@[simp] theorem Channel.sample_prevCount : c.sample.prevCount = c.count := rfl
@[simp] theorem Channel.sample_angVel : c.sample.angVel = toReg c.sampledAng := rfl
@[simp] theorem Channel.sample_linVel : c.sample.linVel = toReg c.sampledLin := rfl
@[simp] theorem Channel.sample_kAng : c.sample.kAng = c.kAng := rfl
@[simp] theorem Channel.sample_radius : c.sample.radius = c.radius := rfl
@[simp] theorem Channel.sample_setpoint : c.sample.setpoint = c.setpoint := rfl
@[simp] theorem Channel.sample_error : c.sample.error = c.error := rfl
@[simp] theorem Channel.sample_prevErr : c.sample.prevErr = c.prevErr := rfl
@[simp] theorem Channel.sample_integral : c.sample.integral = c.integral := rfl
@[simp] theorem Channel.sample_duty : c.sample.duty = c.duty := rfl
@[simp] theorem Channel.sample_ticks : c.sample.ticks = c.ticks := rfl
@[simp] theorem Channel.sample_fC : c.sample.fC = c.fC := rfl
@[simp] theorem Channel.sample_kp : c.sample.kp = c.kp := rfl
@[simp] theorem Channel.sample_ki : c.sample.ki = c.ki := rfl
@[simp] theorem Channel.sample_kd : c.sample.kd = c.kd := rfl
@[simp] theorem Channel.sample_mode : c.sample.mode = c.mode := rfl
@[simp] theorem Channel.sample_motCmd : c.sample.motCmd = c.motCmd := rfl
@[simp] theorem Channel.sample_motMag : c.sample.motMag = c.motMag := rfl
@[simp] theorem Channel.sample_motStb : c.sample.motStb = c.motStb := rfl

@[simp] theorem Channel.enterIdle_aQ : c.enterIdle.aQ = c.aQ := rfl
@[simp] theorem Channel.enterIdle_bQ : c.enterIdle.bQ = c.bQ := rfl
@[simp] theorem Channel.enterIdle_count : c.enterIdle.count = c.count := rfl
@[simp] theorem Channel.enterIdle_prevCount : c.enterIdle.prevCount = c.prevCount := rfl
@[simp] theorem Channel.enterIdle_angVel : c.enterIdle.angVel = c.angVel := rfl
@[simp] theorem Channel.enterIdle_linVel : c.enterIdle.linVel = c.linVel := rfl
@[simp] theorem Channel.enterIdle_kAng : c.enterIdle.kAng = c.kAng := rfl
@[simp] theorem Channel.enterIdle_radius : c.enterIdle.radius = c.radius := rfl
@[simp] theorem Channel.enterIdle_setpoint : c.enterIdle.setpoint = c.setpoint := rfl
@[simp] theorem Channel.enterIdle_error : c.enterIdle.error = c.error := rfl
@[simp] theorem Channel.enterIdle_prevErr : c.enterIdle.prevErr = 0 := rfl
@[simp] theorem Channel.enterIdle_integral : c.enterIdle.integral = c.integral := rfl
@[simp] theorem Channel.enterIdle_duty : c.enterIdle.duty = c.duty := rfl
@[simp] theorem Channel.enterIdle_ticks : c.enterIdle.ticks = c.ticks := rfl
@[simp] theorem Channel.enterIdle_fC : c.enterIdle.fC = c.fC := rfl
@[simp] theorem Channel.enterIdle_kp : c.enterIdle.kp = c.kp := rfl
@[simp] theorem Channel.enterIdle_ki : c.enterIdle.ki = c.ki := rfl
@[simp] theorem Channel.enterIdle_kd : c.enterIdle.kd = c.kd := rfl
@[simp] theorem Channel.enterIdle_mode : c.enterIdle.mode = false := rfl
@[simp] theorem Channel.enterIdle_motCmd : c.enterIdle.motCmd = 0 := rfl
@[simp] theorem Channel.enterIdle_motMag : c.enterIdle.motMag = 0 := rfl
@[simp] theorem Channel.enterIdle_motStb : c.enterIdle.motStb = c.motStb := rfl

@[simp] theorem Channel.drive_aQ (u : Int) : (c.drive u).aQ = c.aQ := by unfold Channel.drive; split <;> rfl
@[simp] theorem Channel.drive_bQ (u : Int) : (c.drive u).bQ = c.bQ := by unfold Channel.drive; split <;> rfl
@[simp] theorem Channel.drive_count (u : Int) : (c.drive u).count = c.count := by unfold Channel.drive; split <;> rfl
@[simp] theorem Channel.drive_prevCount (u : Int) : (c.drive u).prevCount = c.prevCount := by unfold Channel.drive; split <;> rfl
@[simp] theorem Channel.drive_angVel (u : Int) : (c.drive u).angVel = c.angVel := by unfold Channel.drive; split <;> rfl
@[simp] theorem Channel.drive_linVel (u : Int) : (c.drive u).linVel = c.linVel := by unfold Channel.drive; split <;> rfl
@[simp] theorem Channel.drive_kAng (u : Int) : (c.drive u).kAng = c.kAng := by unfold Channel.drive; split <;> rfl
@[simp] theorem Channel.drive_radius (u : Int) : (c.drive u).radius = c.radius := by unfold Channel.drive; split <;> rfl
@[simp] theorem Channel.drive_setpoint (u : Int) : (c.drive u).setpoint = c.setpoint := by unfold Channel.drive; split <;> rfl
@[simp] theorem Channel.drive_error (u : Int) : (c.drive u).error = c.error := by unfold Channel.drive; split <;> rfl
@[simp] theorem Channel.drive_prevErr (u : Int) : (c.drive u).prevErr = c.prevErr := by unfold Channel.drive; split <;> rfl
@[simp] theorem Channel.drive_integral (u : Int) : (c.drive u).integral = c.integral := by unfold Channel.drive; split <;> rfl
@[simp] theorem Channel.drive_duty (u : Int) : (c.drive u).duty = c.duty := by unfold Channel.drive; split <;> rfl
@[simp] theorem Channel.drive_ticks (u : Int) : (c.drive u).ticks = c.ticks := by unfold Channel.drive; split <;> rfl
@[simp] theorem Channel.drive_fC (u : Int) : (c.drive u).fC = c.fC := by unfold Channel.drive; split <;> rfl
@[simp] theorem Channel.drive_kp (u : Int) : (c.drive u).kp = c.kp := by unfold Channel.drive; split <;> rfl
@[simp] theorem Channel.drive_ki (u : Int) : (c.drive u).ki = c.ki := by unfold Channel.drive; split <;> rfl
@[simp] theorem Channel.drive_kd (u : Int) : (c.drive u).kd = c.kd := by unfold Channel.drive; split <;> rfl
@[simp] theorem Channel.drive_mode (u : Int) : (c.drive u).mode = c.mode := by unfold Channel.drive; split <;> rfl
@[simp] theorem Channel.drive_motCmd (u : Int) : (c.drive u).motCmd = if u ≥ 0 then 1 else 2 := by unfold Channel.drive; split <;> rfl
@[simp] theorem Channel.drive_motMag (u : Int) : (c.drive u).motMag = BitVec.ofInt 17 (if u ≥ 0 then u else -u) := by unfold Channel.drive; split <;> rfl
@[simp] theorem Channel.drive_motStb (u : Int) : (c.drive u).motStb = c.motStb := by unfold Channel.drive; split <;> rfl

@[simp] theorem Channel.regulate_aQ : c.regulate.aQ = c.aQ := by simp [Channel.regulate]
@[simp] theorem Channel.regulate_bQ : c.regulate.bQ = c.bQ := by simp [Channel.regulate]
@[simp] theorem Channel.regulate_count : c.regulate.count = c.count := by simp [Channel.regulate]
@[simp] theorem Channel.regulate_prevCount : c.regulate.prevCount = c.prevCount := by simp [Channel.regulate]
@[simp] theorem Channel.regulate_angVel : c.regulate.angVel = c.angVel := by simp [Channel.regulate]
@[simp] theorem Channel.regulate_linVel : c.regulate.linVel = c.linVel := by simp [Channel.regulate]
@[simp] theorem Channel.regulate_kAng : c.regulate.kAng = c.kAng := by simp [Channel.regulate]
@[simp] theorem Channel.regulate_radius : c.regulate.radius = c.radius := by simp [Channel.regulate]
@[simp] theorem Channel.regulate_setpoint : c.regulate.setpoint = c.setpoint := by simp [Channel.regulate]
@[simp] theorem Channel.regulate_error : c.regulate.error = toReg c.pidError := by simp [Channel.regulate]
@[simp] theorem Channel.regulate_prevErr : c.regulate.prevErr = toReg c.pidError := by simp [Channel.regulate]
@[simp] theorem Channel.regulate_integral : c.regulate.integral = toReg c.pidIntegral := by simp [Channel.regulate]
@[simp] theorem Channel.regulate_duty : c.regulate.duty = toReg c.pidDuty := by simp [Channel.regulate]
@[simp] theorem Channel.regulate_ticks : c.regulate.ticks = c.nextTicks := by simp [Channel.regulate]
@[simp] theorem Channel.regulate_fC : c.regulate.fC = c.fC := by simp [Channel.regulate]
@[simp] theorem Channel.regulate_kp : c.regulate.kp = c.kp := by simp [Channel.regulate]
@[simp] theorem Channel.regulate_ki : c.regulate.ki = c.ki := by simp [Channel.regulate]
@[simp] theorem Channel.regulate_kd : c.regulate.kd = c.kd := by simp [Channel.regulate]
@[simp] theorem Channel.regulate_mode : c.regulate.mode = true := by simp [Channel.regulate]
@[simp] theorem Channel.regulate_motCmd : c.regulate.motCmd = if c.pidDuty ≥ 0 then 1 else 2 := by simp [Channel.regulate]
@[simp] theorem Channel.regulate_motMag : c.regulate.motMag = BitVec.ofInt 17 (if c.pidDuty ≥ 0 then c.pidDuty else -c.pidDuty) := by simp [Channel.regulate]
@[simp] theorem Channel.regulate_motStb : c.regulate.motStb = c.motStb := by simp [Channel.regulate]

@[simp] theorem Channel.control_aQ : c.control.aQ = c.aQ := by unfold Channel.control; split <;> simp_all
@[simp] theorem Channel.control_bQ : c.control.bQ = c.bQ := by unfold Channel.control; split <;> simp_all
@[simp] theorem Channel.control_count : c.control.count = c.count := by unfold Channel.control; split <;> simp_all
@[simp] theorem Channel.control_prevCount : c.control.prevCount = c.prevCount := by unfold Channel.control; split <;> simp_all
@[simp] theorem Channel.control_angVel : c.control.angVel = c.angVel := by unfold Channel.control; split <;> simp_all
@[simp] theorem Channel.control_linVel : c.control.linVel = c.linVel := by unfold Channel.control; split <;> simp_all
@[simp] theorem Channel.control_kAng : c.control.kAng = c.kAng := by unfold Channel.control; split <;> simp_all
@[simp] theorem Channel.control_radius : c.control.radius = c.radius := by unfold Channel.control; split <;> simp_all
@[simp] theorem Channel.control_setpoint : c.control.setpoint = c.setpoint := by unfold Channel.control; split <;> simp_all
@[simp] theorem Channel.control_fC : c.control.fC = c.fC := by unfold Channel.control; split <;> simp_all
@[simp] theorem Channel.control_kp : c.control.kp = c.kp := by unfold Channel.control; split <;> simp_all
@[simp] theorem Channel.control_ki : c.control.ki = c.ki := by unfold Channel.control; split <;> simp_all
@[simp] theorem Channel.control_kd : c.control.kd = c.kd := by unfold Channel.control; split <;> simp_all
@[simp] theorem Channel.control_mode : c.control.mode = !c.idles := by unfold Channel.control; split <;> simp_all
@[simp] theorem Channel.control_motStb : c.control.motStb = c.motStb := by unfold Channel.control; split <;> simp_all

@[simp] theorem Channel.setSetpoint_aQ (v : Word) : (c.setSetpoint v).aQ = c.aQ := by unfold Channel.setSetpoint; split <;> simp_all
@[simp] theorem Channel.setSetpoint_bQ (v : Word) : (c.setSetpoint v).bQ = c.bQ := by unfold Channel.setSetpoint; split <;> simp_all
@[simp] theorem Channel.setSetpoint_count (v : Word) : (c.setSetpoint v).count = c.count := by unfold Channel.setSetpoint; split <;> simp_all
@[simp] theorem Channel.setSetpoint_prevCount (v : Word) : (c.setSetpoint v).prevCount = c.prevCount := by unfold Channel.setSetpoint; split <;> simp_all
@[simp] theorem Channel.setSetpoint_angVel (v : Word) : (c.setSetpoint v).angVel = c.angVel := by unfold Channel.setSetpoint; split <;> simp_all
@[simp] theorem Channel.setSetpoint_linVel (v : Word) : (c.setSetpoint v).linVel = c.linVel := by unfold Channel.setSetpoint; split <;> simp_all
@[simp] theorem Channel.setSetpoint_kAng (v : Word) : (c.setSetpoint v).kAng = c.kAng := by unfold Channel.setSetpoint; split <;> simp_all
@[simp] theorem Channel.setSetpoint_radius (v : Word) : (c.setSetpoint v).radius = c.radius := by unfold Channel.setSetpoint; split <;> simp_all
@[simp] theorem Channel.setSetpoint_setpoint (v : Word) : (c.setSetpoint v).setpoint = v := by unfold Channel.setSetpoint; split <;> simp_all
@[simp] theorem Channel.setSetpoint_error (v : Word) : (c.setSetpoint v).error = c.error := by unfold Channel.setSetpoint; split <;> simp_all
@[simp] theorem Channel.setSetpoint_prevErr (v : Word) : (c.setSetpoint v).prevErr = if v ≠ c.setpoint then 0 else c.prevErr := by unfold Channel.setSetpoint; split <;> simp_all
@[simp] theorem Channel.setSetpoint_integral (v : Word) : (c.setSetpoint v).integral = if v ≠ c.setpoint then 0 else c.integral := by unfold Channel.setSetpoint; split <;> simp_all
@[simp] theorem Channel.setSetpoint_duty (v : Word) : (c.setSetpoint v).duty = c.duty := by unfold Channel.setSetpoint; split <;> simp_all
@[simp] theorem Channel.setSetpoint_ticks (v : Word) : (c.setSetpoint v).ticks = if v ≠ c.setpoint then 0 else c.ticks := by unfold Channel.setSetpoint; split <;> simp_all
@[simp] theorem Channel.setSetpoint_fC (v : Word) : (c.setSetpoint v).fC = c.fC := by unfold Channel.setSetpoint; split <;> simp_all
@[simp] theorem Channel.setSetpoint_kp (v : Word) : (c.setSetpoint v).kp = c.kp := by unfold Channel.setSetpoint; split <;> simp_all
@[simp] theorem Channel.setSetpoint_ki (v : Word) : (c.setSetpoint v).ki = c.ki := by unfold Channel.setSetpoint; split <;> simp_all
@[simp] theorem Channel.setSetpoint_kd (v : Word) : (c.setSetpoint v).kd = c.kd := by unfold Channel.setSetpoint; split <;> simp_all
@[simp] theorem Channel.setSetpoint_mode (v : Word) : (c.setSetpoint v).mode = c.mode := by unfold Channel.setSetpoint; split <;> simp_all
@[simp] theorem Channel.setSetpoint_motCmd (v : Word) : (c.setSetpoint v).motCmd = c.motCmd := by unfold Channel.setSetpoint; split <;> simp_all
@[simp] theorem Channel.setSetpoint_motMag (v : Word) : (c.setSetpoint v).motMag = c.motMag := by unfold Channel.setSetpoint; split <;> simp_all
@[simp] theorem Channel.setSetpoint_motStb (v : Word) : (c.setSetpoint v).motStb = c.motStb := by unfold Channel.setSetpoint; split <;> simp_all

end

/-! State updates. -/

section
variable (s : State)

@[simp] theorem State.drive_left (v : Word) : (s.drive v).left = s.left := rfl
@[simp] theorem State.drive_right (v : Word) : (s.drive v).right = s.right := rfl
@[simp] theorem State.drive_cmdLin (v : Word) : (s.drive v).cmdLin = s.cmdLin := rfl
@[simp] theorem State.drive_cmdAng (v : Word) : (s.drive v).cmdAng = s.cmdAng := rfl
@[simp] theorem State.drive_track (v : Word) : (s.drive v).track = s.track := rfl
@[simp] theorem State.drive_bodyLin (v : Word) : (s.drive v).bodyLin = s.bodyLin := rfl
@[simp] theorem State.drive_bodyAng (v : Word) : (s.drive v).bodyAng = s.bodyAng := rfl
@[simp] theorem State.drive_en (v : Word) : (s.drive v).en = s.en := rfl
@[simp] theorem State.drive_busRdata (v : Word) : (s.drive v).busRdata = v := rfl
@[simp] theorem State.drive_env (v : Word) : (s.drive v).env = s.env := rfl

@[simp] theorem State.quiet_left : s.quiet.left = s.left := rfl
@[simp] theorem State.quiet_right : s.quiet.right = s.right := rfl
@[simp] theorem State.quiet_cmdLin : s.quiet.cmdLin = s.cmdLin := rfl
@[simp] theorem State.quiet_cmdAng : s.quiet.cmdAng = s.cmdAng := rfl
@[simp] theorem State.quiet_track : s.quiet.track = s.track := rfl
@[simp] theorem State.quiet_bodyLin : s.quiet.bodyLin = s.bodyLin := rfl
@[simp] theorem State.quiet_bodyAng : s.quiet.bodyAng = s.bodyAng := rfl
@[simp] theorem State.quiet_en : s.quiet.en = s.en := rfl
@[simp] theorem State.quiet_busRdata : s.quiet.busRdata = 0 := rfl
@[simp] theorem State.quiet_env : s.quiet.env = s.env := rfl

@[simp] theorem State.kinSet_left : s.kinSet.left = s.left.setSetpoint (toReg (sat32 (s32 s.cmdLin - s.halfTurn))) := rfl
@[simp] theorem State.kinSet_right : s.kinSet.right = s.right.setSetpoint (toReg (sat32 (s32 s.cmdLin + s.halfTurn))) := rfl
@[simp] theorem State.kinSet_cmdLin : s.kinSet.cmdLin = s.cmdLin := rfl
@[simp] theorem State.kinSet_cmdAng : s.kinSet.cmdAng = s.cmdAng := rfl
@[simp] theorem State.kinSet_track : s.kinSet.track = s.track := rfl
@[simp] theorem State.kinSet_bodyLin : s.kinSet.bodyLin = s.bodyLin := rfl
@[simp] theorem State.kinSet_bodyAng : s.kinSet.bodyAng = s.bodyAng := rfl
@[simp] theorem State.kinSet_en : s.kinSet.en = s.en := rfl
@[simp] theorem State.kinSet_busRdata : s.kinSet.busRdata = s.busRdata := rfl
@[simp] theorem State.kinSet_env : s.kinSet.env = s.env := rfl

@[simp] theorem State.kinGet_left : s.kinGet.left = s.left := rfl
@[simp] theorem State.kinGet_right : s.kinGet.right = s.right := rfl
@[simp] theorem State.kinGet_cmdLin : s.kinGet.cmdLin = s.cmdLin := rfl
@[simp] theorem State.kinGet_cmdAng : s.kinGet.cmdAng = s.cmdAng := rfl
@[simp] theorem State.kinGet_track : s.kinGet.track = s.track := rfl
@[simp] theorem State.kinGet_bodyLin : s.kinGet.bodyLin = toReg (shr (s32 s.left.linVel + s32 s.right.linVel) 1) := rfl
@[simp] theorem State.kinGet_bodyAng : s.kinGet.bodyAng = toReg (bodyAngular ((s32 s.right.linVel - s32 s.left.linVel) * 65536) (s32 s.track)) := rfl
@[simp] theorem State.kinGet_en : s.kinGet.en = s.en := rfl
@[simp] theorem State.kinGet_busRdata : s.kinGet.busRdata = s.busRdata := rfl
@[simp] theorem State.kinGet_env : s.kinGet.env = s.env := rfl

@[simp] theorem State.resetTo_left (a0 b0 a1 b1 : Bool) : (s.resetTo a0 b0 a1 b1).left = Channel.reset a0 b0 := rfl
@[simp] theorem State.resetTo_right (a0 b0 a1 b1 : Bool) : (s.resetTo a0 b0 a1 b1).right = Channel.reset a1 b1 := rfl
@[simp] theorem State.resetTo_cmdLin (a0 b0 a1 b1 : Bool) : (s.resetTo a0 b0 a1 b1).cmdLin = 0 := rfl
@[simp] theorem State.resetTo_cmdAng (a0 b0 a1 b1 : Bool) : (s.resetTo a0 b0 a1 b1).cmdAng = 0 := rfl
@[simp] theorem State.resetTo_track (a0 b0 a1 b1 : Bool) : (s.resetTo a0 b0 a1 b1).track = 0 := rfl
@[simp] theorem State.resetTo_bodyLin (a0 b0 a1 b1 : Bool) : (s.resetTo a0 b0 a1 b1).bodyLin = 0 := rfl
@[simp] theorem State.resetTo_bodyAng (a0 b0 a1 b1 : Bool) : (s.resetTo a0 b0 a1 b1).bodyAng = 0 := rfl
@[simp] theorem State.resetTo_en (a0 b0 a1 b1 : Bool) : (s.resetTo a0 b0 a1 b1).en = false := rfl
@[simp] theorem State.resetTo_busRdata (a0 b0 a1 b1 : Bool) : (s.resetTo a0 b0 a1 b1).busRdata = 0 := rfl
@[simp] theorem State.resetTo_env (a0 b0 a1 b1 : Bool) : (s.resetTo a0 b0 a1 b1).env = s.env := rfl

@[simp] theorem State.strobes_left (p : Input) : (s.strobes p).left = { s.left with motStb := p.ctick0 } := rfl
@[simp] theorem State.strobes_right (p : Input) : (s.strobes p).right = { s.right with motStb := p.ctick1 } := rfl
@[simp] theorem State.strobes_cmdLin (p : Input) : (s.strobes p).cmdLin = s.cmdLin := rfl
@[simp] theorem State.strobes_cmdAng (p : Input) : (s.strobes p).cmdAng = s.cmdAng := rfl
@[simp] theorem State.strobes_track (p : Input) : (s.strobes p).track = s.track := rfl
@[simp] theorem State.strobes_bodyLin (p : Input) : (s.strobes p).bodyLin = s.bodyLin := rfl
@[simp] theorem State.strobes_bodyAng (p : Input) : (s.strobes p).bodyAng = s.bodyAng := rfl
@[simp] theorem State.strobes_en (p : Input) : (s.strobes p).en = s.en := rfl
@[simp] theorem State.strobes_busRdata (p : Input) : (s.strobes p).busRdata = s.busRdata := rfl
@[simp] theorem State.strobes_env (p : Input) : (s.strobes p).env = s.env := rfl

@[simp] theorem State.present_left (i : InputWord) : (s.present i).left = s.left := rfl
@[simp] theorem State.present_right (i : InputWord) : (s.present i).right = s.right := rfl
@[simp] theorem State.present_cmdLin (i : InputWord) : (s.present i).cmdLin = s.cmdLin := rfl
@[simp] theorem State.present_cmdAng (i : InputWord) : (s.present i).cmdAng = s.cmdAng := rfl
@[simp] theorem State.present_track (i : InputWord) : (s.present i).track = s.track := rfl
@[simp] theorem State.present_bodyLin (i : InputWord) : (s.present i).bodyLin = s.bodyLin := rfl
@[simp] theorem State.present_bodyAng (i : InputWord) : (s.present i).bodyAng = s.bodyAng := rfl
@[simp] theorem State.present_en (i : InputWord) : (s.present i).en = s.en := rfl
@[simp] theorem State.present_busRdata (i : InputWord) : (s.present i).busRdata = s.busRdata := rfl
@[simp] theorem State.present_env (i : InputWord) : (s.present i).env = { s.env with inputs := i :: s.env.inputs } := rfl

@[simp] theorem State.taken_left : s.taken.left = s.left := by unfold State.taken; split <;> rfl
@[simp] theorem State.taken_right : s.taken.right = s.right := by unfold State.taken; split <;> rfl
@[simp] theorem State.taken_cmdLin : s.taken.cmdLin = s.cmdLin := by unfold State.taken; split <;> rfl
@[simp] theorem State.taken_cmdAng : s.taken.cmdAng = s.cmdAng := by unfold State.taken; split <;> rfl
@[simp] theorem State.taken_track : s.taken.track = s.track := by unfold State.taken; split <;> rfl
@[simp] theorem State.taken_bodyLin : s.taken.bodyLin = s.bodyLin := by unfold State.taken; split <;> rfl
@[simp] theorem State.taken_bodyAng : s.taken.bodyAng = s.bodyAng := by unfold State.taken; split <;> rfl
@[simp] theorem State.taken_en : s.taken.en = s.en := by unfold State.taken; split <;> rfl
@[simp] theorem State.taken_busRdata : s.taken.busRdata = s.busRdata := by unfold State.taken; split <;> rfl

@[simp] theorem State.useDraw_left (w : Wheel) : (s.useDraw w).left = s.left := by cases w <;> rfl
@[simp] theorem State.useDraw_right (w : Wheel) : (s.useDraw w).right = s.right := by cases w <;> rfl
@[simp] theorem State.useDraw_cmdLin (w : Wheel) : (s.useDraw w).cmdLin = s.cmdLin := by cases w <;> rfl
@[simp] theorem State.useDraw_cmdAng (w : Wheel) : (s.useDraw w).cmdAng = s.cmdAng := by cases w <;> rfl
@[simp] theorem State.useDraw_track (w : Wheel) : (s.useDraw w).track = s.track := by cases w <;> rfl
@[simp] theorem State.useDraw_bodyLin (w : Wheel) : (s.useDraw w).bodyLin = s.bodyLin := by cases w <;> rfl
@[simp] theorem State.useDraw_bodyAng (w : Wheel) : (s.useDraw w).bodyAng = s.bodyAng := by cases w <;> rfl
@[simp] theorem State.useDraw_en (w : Wheel) : (s.useDraw w).en = s.en := by cases w <;> rfl
@[simp] theorem State.useDraw_busRdata (w : Wheel) : (s.useDraw w).busRdata = s.busRdata := by cases w <;> rfl

@[simp] theorem State.setWheel_cmdLin (w : Wheel) (c : Channel) : (s.setWheel w c).cmdLin = s.cmdLin := by cases w <;> rfl
@[simp] theorem State.setWheel_cmdAng (w : Wheel) (c : Channel) : (s.setWheel w c).cmdAng = s.cmdAng := by cases w <;> rfl
@[simp] theorem State.setWheel_track (w : Wheel) (c : Channel) : (s.setWheel w c).track = s.track := by cases w <;> rfl
@[simp] theorem State.setWheel_bodyLin (w : Wheel) (c : Channel) : (s.setWheel w c).bodyLin = s.bodyLin := by cases w <;> rfl
@[simp] theorem State.setWheel_bodyAng (w : Wheel) (c : Channel) : (s.setWheel w c).bodyAng = s.bodyAng := by cases w <;> rfl
@[simp] theorem State.setWheel_en (w : Wheel) (c : Channel) : (s.setWheel w c).en = s.en := by cases w <;> rfl
@[simp] theorem State.setWheel_busRdata (w : Wheel) (c : Channel) : (s.setWheel w c).busRdata = s.busRdata := by cases w <;> rfl
@[simp] theorem State.setWheel_env (w : Wheel) (c : Channel) : (s.setWheel w c).env = s.env := by cases w <;> rfl

@[simp] theorem State.wheel_left : s.wheel .left = s.left := rfl
@[simp] theorem State.wheel_right : s.wheel .right = s.right := rfl
@[simp] theorem State.setWheel_left (c : Channel) : s.setWheel .left c = { s with left := c } := rfl
@[simp] theorem State.setWheel_right (c : Channel) : s.setWheel .right c = { s with right := c } := rfl
@[simp] theorem State.wheel_setWheel (w : Wheel) (c : Channel) : (s.setWheel w c).wheel w = c := by
  cases w <;> rfl
theorem State.wheel_setWheel_of_ne {w w' : Wheel} (h : w' ≠ w) (c : Channel) :
    (s.setWheel w c).wheel w' = s.wheel w' := by
  cases w <;> cases w' <;> simp_all
@[simp] theorem State.setWheel_wheel (w : Wheel) : s.setWheel w (s.wheel w) = s := by
  cases w <;> rfl
@[simp] theorem State.draws_left : s.draws .left = s.env.drawsLeft := rfl
@[simp] theorem State.draws_right : s.draws .right = s.env.drawsRight := rfl
@[simp] theorem State.draws_setWheel (w w' : Wheel) (c : Channel) : (s.setWheel w c).draws w' = s.draws w' := by
  cases w <;> cases w' <;> rfl
@[simp] theorem State.draws_useDraw (w : Wheel) : (s.useDraw w).draws w = s.draws w + 1 := by
  cases w <;> rfl
theorem State.draws_useDraw_of_ne {w w' : Wheel} (h : w' ≠ w) : (s.useDraw w).draws w' = s.draws w' := by
  cases w <;> cases w' <;> simp_all [State.useDraw, State.draws]
@[simp] theorem State.wheel_useDraw (w w' : Wheel) : (s.useDraw w).wheel w' = s.wheel w' := by
  cases w <;> cases w' <;> rfl
@[simp] theorem State.wheel_drive (w : Wheel) (v : Word) : (s.drive v).wheel w = s.wheel w := by
  cases w <;> rfl
@[simp] theorem State.wheel_taken (w : Wheel) : s.taken.wheel w = s.wheel w := by
  cases w <;> simp

/-- The word just placed is the next one. -/
@[simp] theorem State.nextWord_present (i : InputWord) : (s.present i).nextWord = i := rfl

/-- Taking the word just placed gives the state back. -/
@[simp] theorem State.taken_present (i : InputWord) : (s.present i).taken = s := rfl

theorem State.nextWord_cons {i : InputWord} {rest : List InputWord} (h : s.env.inputs = i :: rest) :
    s.nextWord = i := by
  simp [State.nextWord, h]

theorem State.nextWord_nil (h : s.env.inputs = []) : s.nextWord = Config.freeInput s.env.cycle := by
  simp [State.nextWord, h]

theorem State.taken_env_cons {i : InputWord} {rest : List InputWord} (h : s.env.inputs = i :: rest) :
    s.taken.env = { s.env with inputs := rest } := by
  simp [State.taken, h]

theorem State.taken_env_nil (h : s.env.inputs = []) :
    s.taken.env = { s.env with cycle := s.env.cycle + 1 } := by
  simp [State.taken, h]

end

end Sys2Proof.Machine
end

