-- ==== Sys2Proof/Laws/Ops.lean ====
section
/-! SUPPORT. What each shared operation can do, said once. -/

namespace Sys2Proof.Machine

open Sys2Proof

/-! Draws and transitions. -/

/-- A draw is one of the three values 40_qdec.md R111 names. -/
theorem Draw.toInt_cases (q : Draw) : q.toInt = -2 ∨ q.toInt = 0 ∨ q.toInt = 2 := by
  cases q <;> simp [Draw.toInt]

/-- A transition of count change 0 whose sampled levels are the stored ones changes nothing (40_qdec.md R112). -/
theorem Channel.transition_zero (c : Channel) : c.transition 0 c.aQ c.bQ = c := by
  simp [Channel.transition]

/-- Two transitions one after the other add their count changes, and the second's levels stand. -/
theorem Channel.transition_transition (c : Channel) (d e : Int) (a b a' b' : Bool) :
    (c.transition d a b).transition e a' b' = c.transition (d + e) a' b' := by
  have h : toReg (s32 (toReg (s32 c.count + d)) + e) = toReg (s32 c.count + (d + e)) := by
    rw [toReg_add, toReg_s32, ← toReg_add, add_assoc]
  simp [Channel.transition, h]

@[simp] theorem edge_wheel (w : Wheel) (d : Int) (a b : Bool) (s : State) :
    (edge w d a b s).wheel w = (s.wheel w).transition d a b := by
  simp [edge]

theorem edge_wheel_of_ne {w w' : Wheel} (h : w' ≠ w) (d : Int) (a b : Bool) (s : State) :
    (edge w d a b s).wheel w' = s.wheel w' := by
  simp [edge, State.wheel_setWheel_of_ne s h]

@[simp] theorem doubleEdge_wheel (w : Wheel) (a b : Bool) (s : State) :
    (doubleEdge w a b s).wheel w = (s.wheel w).transition (Config.qdblDraw w (s.draws w)).toInt a b := by
  simp [doubleEdge]

theorem doubleEdge_wheel_of_ne {w w' : Wheel} (h : w' ≠ w) (a b : Bool) (s : State) :
    (doubleEdge w a b s).wheel w' = s.wheel w' := by
  simp [doubleEdge, edge_wheel_of_ne h]

/-! Estimator. -/

/-- What `STICK` stores reads back as what it computed (41_vest.md R120). -/
@[simp] theorem s32_toReg_sampledAng (c : Channel) : s32 (toReg c.sampledAng) = c.sampledAng := by
  simp [Channel.sampledAng]

@[simp] theorem s32_toReg_sampledLin (c : Channel) : s32 (toReg c.sampledLin) = c.sampledLin := by
  simp [Channel.sampledLin]

/-! Regulator. -/

theorem Channel.idles_iff (c : Channel) :
    c.idles = true ↔ c.setpoint = 0 ∨ u32 c.fC < u32 c.ticks := by
  simp [Channel.idles]

theorem Channel.not_idles_iff (c : Channel) :
    c.idles = false ↔ c.setpoint ≠ 0 ∧ u32 c.ticks ≤ u32 c.fC := by
  simp [Channel.idles]

theorem Channel.control_of_idles {c : Channel} (h : c.idles = true) : c.control = c.enterIdle := by
  simp [Channel.control, h]

theorem Channel.control_of_not_idles {c : Channel} (h : c.idles = false) : c.control = c.regulate := by
  simp [Channel.control, h]

/-- A control tick takes the idle branch or the regulating one (42_pid.md R132). -/
theorem Channel.control_cases (c : Channel) :
    (c.idles = true ∧ c.control = c.enterIdle) ∨ (c.idles = false ∧ c.control = c.regulate) := by
  cases h : c.idles
  · exact .inr ⟨rfl, control_of_not_idles h⟩
  · exact .inl ⟨rfl, control_of_idles h⟩

theorem Channel.pidDuty_lower (c : Channel) : -65536 ≤ c.pidDuty := clamp_lower (by norm_num)

theorem Channel.pidDuty_upper (c : Channel) : c.pidDuty ≤ 65536 := clamp_upper (by norm_num)

@[simp] theorem s32_toReg_pidDuty (c : Channel) : s32 (toReg c.pidDuty) = c.pidDuty :=
  s32_toReg (by have := c.pidDuty_lower; omega) (by have := c.pidDuty_upper; omega)

@[simp] theorem s32_toReg_pidError (c : Channel) : s32 (toReg c.pidError) = c.pidError := by
  simp [Channel.pidError]

@[simp] theorem s32_toReg_pidIntegral (c : Channel) : s32 (toReg c.pidIntegral) = c.pidIntegral := by
  simp [Channel.pidIntegral]

/-- The magnitude a regulating tick drives is the duty's (42_pid.md R135). -/
theorem toNat_driven_magnitude {u : Int} (lo : -65536 ≤ u) (hi : u ≤ 65536) :
    (BitVec.ofInt 17 (if u ≥ 0 then u else -u)).toNat = u.natAbs := by
  rw [BitVec.toNat_ofInt]; split_ifs <;> omega

/-- The stall counter after a regulating tick, unsigned (42_pid.md R136). -/
theorem u32_nextTicks (c : Channel) : u32 c.nextTicks = min (u32 c.ticks + 1) (2 ^ 32 - 1) := by
  unfold Channel.nextTicks u32
  rw [BitVec.toNat_ofNat, Nat.mod_eq_of_lt]; omega

/-- A setpoint already held changes nothing (42_pid.md R137). -/
@[simp] theorem Channel.setSetpoint_same (c : Channel) : c.setSetpoint c.setpoint = c := by
  simp [Channel.setSetpoint]

/-- A new setpoint zeroes the previous error, the integral and the stall counter (42_pid.md R137). -/
theorem Channel.setSetpoint_of_ne {c : Channel} {v : Word} (h : v ≠ c.setpoint) :
    c.setSetpoint v = { c with setpoint := v, prevErr := 0, integral := 0, ticks := 0 } := by
  simp [Channel.setSetpoint, h]

/-! Kinematics. -/

/-- The half difference of `KIN_SET` is in the signed range (92_eei_decisions.md D21). -/
theorem State.halfTurn_range (s : State) : -2 ^ 31 ≤ s.halfTurn ∧ s.halfTurn ≤ 2 ^ 31 - 1 :=
  ⟨sat32_lower _, sat32_upper _⟩

/-- In the signed range the half difference is the shifted product itself (43_kin.md R151). -/
theorem State.halfTurn_of_range {s : State} (lo : -2 ^ 31 ≤ shr (s32 s.cmdAng * s32 s.track) 17)
    (hi : shr (s32 s.cmdAng * s32 s.track) 17 ≤ 2 ^ 31 - 1) : s.halfTurn = shr (s32 s.cmdAng * s32 s.track) 17 :=
  sat32_of_range lo hi

/-- The angular result of `KIN_GET` is in the signed range (43_kin.md R153). -/
theorem bodyAngular_range (num track : Int) :
    -2 ^ 31 ≤ bodyAngular num track ∧ bodyAngular num track ≤ 2 ^ 31 - 1 := by
  unfold bodyAngular
  split_ifs
  · norm_num
  · norm_num
  · norm_num
  · exact ⟨sat32_lower _, sat32_upper _⟩

/-- The linear result of `KIN_GET` needs no saturation (43_kin.md R153). -/
theorem half_sum_range (p q : Word) :
    -2 ^ 31 ≤ shr (s32 p + s32 q) 1 ∧ shr (s32 p + s32 q) 1 ≤ 2 ^ 31 - 1 := by
  have := s32_lower p; have := s32_upper p; have := s32_lower q; have := s32_upper q
  unfold shr; omega

/-! The register port. -/

/-- A read of a wheel's index is a read at the offset in the wheel's block (30_encoding.md R86). -/
theorem busRead_wheel (s : State) {a : RegIndex} (h : a.toNat < 0x40) :
    busRead s a = (s.wheel (wheelOfIndex a)).readAt (a.toNat % 0x20) := by
  simp [busRead, h]

/-- What a read returns does not depend on the read data last driven nor on the model's own fields. -/
theorem busRead_drive (s : State) (v : Word) (a : RegIndex) : busRead (s.drive v) a = busRead s a := rfl

theorem busRead_taken (s : State) (a : RegIndex) : busRead s.taken a = busRead s a := by
  unfold State.taken; split <;> rfl

theorem busRead_present (s : State) (i : InputWord) (a : RegIndex) :
    busRead (s.present i) a = busRead s a := rfl

end Sys2Proof.Machine
end

