-- ==== Sys2Proof/Laws/PerInstr.lean ====
section
/-! SUPPORT. A family of lemmas, one per operation: the code the encoder writes for a well-formed operation
fits the operation's row of spec/opcode_table.json, whose pattern stands here bit for bit. -/

namespace Sys2Proof.Laws

open Sys2Proof

/-- The pattern of a row of spec/opcode_table.json: the bits of a transition code, or the mask and the match
of an input word. -/
inductive Row where
  | transition (bits : BitVec 4)
  | masked (mask pattern : InputWord)

/-- A code fits a row: equal bits, or the row's pattern under the row's mask. -/
def Row.Fits : Row → Code → Prop
  | .transition bits, .qt _ c => c = bits
  | .masked mask pattern, .input i => i &&& mask = pattern
  | _, _ => False

/-- Each operation's row. -/
def rowOf : Instr → Row
  | .qnop0000 _ => .transition 0b0000#4
  | .qnop0101 _ => .transition 0b0101#4
  | .qnop1010 _ => .transition 0b1010#4
  | .qnop1111 _ => .transition 0b1111#4
  | .qaR0 _ => .transition 0b0010#4
  | .qaR1 _ => .transition 0b0111#4
  | .qaF0 _ => .transition 0b1000#4
  | .qaF1 _ => .transition 0b1101#4
  | .qbR0 _ => .transition 0b0001#4
  | .qbR1 _ => .transition 0b1011#4
  | .qbF0 _ => .transition 0b0100#4
  | .qbF1 _ => .transition 0b1110#4
  | .qdbl0011 _ => .transition 0b0011#4
  | .qdbl0110 _ => .transition 0b0110#4
  | .qdbl1001 _ => .transition 0b1001#4
  | .qdbl1100 _ => .transition 0b1100#4
  | .reset _ _ _ _ => .masked 0x4000000000000#51 0x4000000000000#51
  | .stick0 => .masked 0x4040000000000#51 0x0040000000000#51
  | .stick1 => .masked 0x4080000000000#51 0x0080000000000#51
  | .ctick0 => .masked 0x4100000000000#51 0x0100000000000#51
  | .ctick1 => .masked 0x4200000000000#51 0x0200000000000#51
  | .rdCount0 => .masked 0x403FF00000000#51 0x0020000000000#51
  | .rdQstat0 => .masked 0x403FF00000000#51 0x0020100000000#51
  | .rdPrevCount0 => .masked 0x403FF00000000#51 0x0020200000000#51
  | .rdAngVel0 => .masked 0x403FF00000000#51 0x0020300000000#51
  | .rdLinVel0 => .masked 0x403FF00000000#51 0x0020400000000#51
  | .rdKAng0 => .masked 0x403FF00000000#51 0x0020500000000#51
  | .rdRadius0 => .masked 0x403FF00000000#51 0x0020600000000#51
  | .rdSetpoint0 => .masked 0x403FF00000000#51 0x0020700000000#51
  | .rdError0 => .masked 0x403FF00000000#51 0x0020800000000#51
  | .rdPrevErr0 => .masked 0x403FF00000000#51 0x0020900000000#51
  | .rdIntegral0 => .masked 0x403FF00000000#51 0x0020A00000000#51
  | .rdDuty0 => .masked 0x403FF00000000#51 0x0020B00000000#51
  | .rdTicks0 => .masked 0x403FF00000000#51 0x0020C00000000#51
  | .rdFC0 => .masked 0x403FF00000000#51 0x0020D00000000#51
  | .rdKp0 => .masked 0x403FF00000000#51 0x0020E00000000#51
  | .rdKi0 => .masked 0x403FF00000000#51 0x0020F00000000#51
  | .rdKd0 => .masked 0x403FF00000000#51 0x0021000000000#51
  | .rdPstat0 => .masked 0x403FF00000000#51 0x0021100000000#51
  | .rdMotDuty0 => .masked 0x403FF00000000#51 0x0021200000000#51
  | .rdCount1 => .masked 0x403FF00000000#51 0x0022000000000#51
  | .rdQstat1 => .masked 0x403FF00000000#51 0x0022100000000#51
  | .rdPrevCount1 => .masked 0x403FF00000000#51 0x0022200000000#51
  | .rdAngVel1 => .masked 0x403FF00000000#51 0x0022300000000#51
  | .rdLinVel1 => .masked 0x403FF00000000#51 0x0022400000000#51
  | .rdKAng1 => .masked 0x403FF00000000#51 0x0022500000000#51
  | .rdRadius1 => .masked 0x403FF00000000#51 0x0022600000000#51
  | .rdSetpoint1 => .masked 0x403FF00000000#51 0x0022700000000#51
  | .rdError1 => .masked 0x403FF00000000#51 0x0022800000000#51
  | .rdPrevErr1 => .masked 0x403FF00000000#51 0x0022900000000#51
  | .rdIntegral1 => .masked 0x403FF00000000#51 0x0022A00000000#51
  | .rdDuty1 => .masked 0x403FF00000000#51 0x0022B00000000#51
  | .rdTicks1 => .masked 0x403FF00000000#51 0x0022C00000000#51
  | .rdFC1 => .masked 0x403FF00000000#51 0x0022D00000000#51
  | .rdKp1 => .masked 0x403FF00000000#51 0x0022E00000000#51
  | .rdKi1 => .masked 0x403FF00000000#51 0x0022F00000000#51
  | .rdKd1 => .masked 0x403FF00000000#51 0x0023000000000#51
  | .rdPstat1 => .masked 0x403FF00000000#51 0x0023100000000#51
  | .rdMotDuty1 => .masked 0x403FF00000000#51 0x0023200000000#51
  | .rdCmdLin => .masked 0x403FF00000000#51 0x0024100000000#51
  | .rdCmdAng => .masked 0x403FF00000000#51 0x0024200000000#51
  | .rdTrack => .masked 0x403FF00000000#51 0x0024300000000#51
  | .rdBodyLin => .masked 0x403FF00000000#51 0x0024400000000#51
  | .rdBodyAng => .masked 0x403FF00000000#51 0x0024500000000#51
  | .rdGstat => .masked 0x403FF00000000#51 0x0024600000000#51
  | .rdZero _ => .masked 0x4030000000000#51 0x0020000000000#51
  | .wrKAng0 _ => .masked 0x403FF00000000#51 0x0030500000000#51
  | .wrRadius0 _ => .masked 0x403FF00000000#51 0x0030600000000#51
  | .wrFC0 _ => .masked 0x403FF00000000#51 0x0030D00000000#51
  | .wrKp0 _ => .masked 0x403FF00000000#51 0x0030E00000000#51
  | .wrKi0 _ => .masked 0x403FF00000000#51 0x0030F00000000#51
  | .wrKd0 _ => .masked 0x403FF00000000#51 0x0031000000000#51
  | .wrKAng1 _ => .masked 0x403FF00000000#51 0x0032500000000#51
  | .wrRadius1 _ => .masked 0x403FF00000000#51 0x0032600000000#51
  | .wrFC1 _ => .masked 0x403FF00000000#51 0x0032D00000000#51
  | .wrKp1 _ => .masked 0x403FF00000000#51 0x0032E00000000#51
  | .wrKi1 _ => .masked 0x403FF00000000#51 0x0032F00000000#51
  | .wrKd1 _ => .masked 0x403FF00000000#51 0x0033000000000#51
  | .wrCmdLin _ => .masked 0x403FF00000000#51 0x0034100000000#51
  | .wrCmdAng _ => .masked 0x403FF00000000#51 0x0034200000000#51
  | .wrTrack _ => .masked 0x403FF00000000#51 0x0034300000000#51
  | .wrSetpoint0 _ => .masked 0x403FF00000000#51 0x0030700000000#51
  | .wrSetpoint1 _ => .masked 0x403FF00000000#51 0x0032700000000#51
  | .nop => .masked 0x403FF000000FF#51 0x0034000000000#51
  | .kinSet => .masked 0x403FF000000FF#51 0x0034000000001#51
  | .kinGet => .masked 0x403FF000000FF#51 0x0034000000002#51
  | .enable => .masked 0x403FF000000FF#51 0x0034000000003#51
  | .disable => .masked 0x403FF000000FF#51 0x0034000000004#51
  | .qrst0 => .masked 0x403FF000000FF#51 0x0034000000005#51
  | .qrst1 => .masked 0x403FF000000FF#51 0x0034000000006#51
  | .wrCmdReserved _ => .masked 0x403FF00000000#51 0x0034000000000#51
  | .wrIgnored _ _ => .masked 0x4030000000000#51 0x0030000000000#51
  | .noBus => .masked 0x4020000000000#51 0x0000000000000#51

/-- The selecting bits of a write: the request, the direction and the index; the data is outside the mask. -/
theorem write_masked (a : RegIndex) (v : Word) :
    Input.write a v &&& 0x403FF00000000#51 = 0x0030000000000#51 ||| a.setWidth 51 <<< 32 := by
  apply BitVec.eq_of_getLsbD_eq
  intro k hk
  simp only [Input.write, Input.toWord, Input.idle, BitVec.getLsbD_and, BitVec.getLsbD_or, getLsbD_pinAt,
    BitVec.getLsbD_shiftLeft, BitVec.getLsbD_setWidth, hk]
  interval_cases k <;> simp

/-- The request and direction bits of a write. -/
theorem write_direction (a : RegIndex) (v : Word) :
    Input.write a v &&& 0x4030000000000#51 = 0x0030000000000#51 := by
  have h : (0x4030000000000#51 : InputWord) = 0x403FF00000000#51 &&& 0x4030000000000#51 := by decide
  rw [h, ← BitVec.and_assoc, write_masked]
  revert a; decide

namespace EncodingMatchesRow

/-- The code the encoder writes for a well-formed operation fits the operation's row. -/
def Statement (i : Instr) : Prop := i.WellFormed → (rowOf i).Fits (encode i)

theorem qnop0000 (w : Wheel) : Statement (.qnop0000 w) := fun _ => rfl
theorem qnop0101 (w : Wheel) : Statement (.qnop0101 w) := fun _ => rfl
theorem qnop1010 (w : Wheel) : Statement (.qnop1010 w) := fun _ => rfl
theorem qnop1111 (w : Wheel) : Statement (.qnop1111 w) := fun _ => rfl
theorem qaR0 (w : Wheel) : Statement (.qaR0 w) := fun _ => rfl
theorem qaR1 (w : Wheel) : Statement (.qaR1 w) := fun _ => rfl
theorem qaF0 (w : Wheel) : Statement (.qaF0 w) := fun _ => rfl
theorem qaF1 (w : Wheel) : Statement (.qaF1 w) := fun _ => rfl
theorem qbR0 (w : Wheel) : Statement (.qbR0 w) := fun _ => rfl
theorem qbR1 (w : Wheel) : Statement (.qbR1 w) := fun _ => rfl
theorem qbF0 (w : Wheel) : Statement (.qbF0 w) := fun _ => rfl
theorem qbF1 (w : Wheel) : Statement (.qbF1 w) := fun _ => rfl
theorem qdbl0011 (w : Wheel) : Statement (.qdbl0011 w) := fun _ => rfl
theorem qdbl0110 (w : Wheel) : Statement (.qdbl0110 w) := fun _ => rfl
theorem qdbl1001 (w : Wheel) : Statement (.qdbl1001 w) := fun _ => rfl
theorem qdbl1100 (w : Wheel) : Statement (.qdbl1100 w) := fun _ => rfl
theorem reset (a0 b0 a1 b1 : Bool) : Statement (.reset a0 b0 a1 b1) := by
  intro _; show _ &&& _ = _; revert a0 b0 a1 b1; decide
theorem stick0 : Statement (.stick0) := by intro _; show _ &&& _ = _; decide
theorem stick1 : Statement (.stick1) := by intro _; show _ &&& _ = _; decide
theorem ctick0 : Statement (.ctick0) := by intro _; show _ &&& _ = _; decide
theorem ctick1 : Statement (.ctick1) := by intro _; show _ &&& _ = _; decide
theorem rdCount0 : Statement (.rdCount0) := by intro _; show _ &&& _ = _; decide
theorem rdQstat0 : Statement (.rdQstat0) := by intro _; show _ &&& _ = _; decide
theorem rdPrevCount0 : Statement (.rdPrevCount0) := by intro _; show _ &&& _ = _; decide
theorem rdAngVel0 : Statement (.rdAngVel0) := by intro _; show _ &&& _ = _; decide
theorem rdLinVel0 : Statement (.rdLinVel0) := by intro _; show _ &&& _ = _; decide
theorem rdKAng0 : Statement (.rdKAng0) := by intro _; show _ &&& _ = _; decide
theorem rdRadius0 : Statement (.rdRadius0) := by intro _; show _ &&& _ = _; decide
theorem rdSetpoint0 : Statement (.rdSetpoint0) := by intro _; show _ &&& _ = _; decide
theorem rdError0 : Statement (.rdError0) := by intro _; show _ &&& _ = _; decide
theorem rdPrevErr0 : Statement (.rdPrevErr0) := by intro _; show _ &&& _ = _; decide
theorem rdIntegral0 : Statement (.rdIntegral0) := by intro _; show _ &&& _ = _; decide
theorem rdDuty0 : Statement (.rdDuty0) := by intro _; show _ &&& _ = _; decide
theorem rdTicks0 : Statement (.rdTicks0) := by intro _; show _ &&& _ = _; decide
theorem rdFC0 : Statement (.rdFC0) := by intro _; show _ &&& _ = _; decide
theorem rdKp0 : Statement (.rdKp0) := by intro _; show _ &&& _ = _; decide
theorem rdKi0 : Statement (.rdKi0) := by intro _; show _ &&& _ = _; decide
theorem rdKd0 : Statement (.rdKd0) := by intro _; show _ &&& _ = _; decide
theorem rdPstat0 : Statement (.rdPstat0) := by intro _; show _ &&& _ = _; decide
theorem rdMotDuty0 : Statement (.rdMotDuty0) := by intro _; show _ &&& _ = _; decide
theorem rdCount1 : Statement (.rdCount1) := by intro _; show _ &&& _ = _; decide
theorem rdQstat1 : Statement (.rdQstat1) := by intro _; show _ &&& _ = _; decide
theorem rdPrevCount1 : Statement (.rdPrevCount1) := by intro _; show _ &&& _ = _; decide
theorem rdAngVel1 : Statement (.rdAngVel1) := by intro _; show _ &&& _ = _; decide
theorem rdLinVel1 : Statement (.rdLinVel1) := by intro _; show _ &&& _ = _; decide
theorem rdKAng1 : Statement (.rdKAng1) := by intro _; show _ &&& _ = _; decide
theorem rdRadius1 : Statement (.rdRadius1) := by intro _; show _ &&& _ = _; decide
theorem rdSetpoint1 : Statement (.rdSetpoint1) := by intro _; show _ &&& _ = _; decide
theorem rdError1 : Statement (.rdError1) := by intro _; show _ &&& _ = _; decide
theorem rdPrevErr1 : Statement (.rdPrevErr1) := by intro _; show _ &&& _ = _; decide
theorem rdIntegral1 : Statement (.rdIntegral1) := by intro _; show _ &&& _ = _; decide
theorem rdDuty1 : Statement (.rdDuty1) := by intro _; show _ &&& _ = _; decide
theorem rdTicks1 : Statement (.rdTicks1) := by intro _; show _ &&& _ = _; decide
theorem rdFC1 : Statement (.rdFC1) := by intro _; show _ &&& _ = _; decide
theorem rdKp1 : Statement (.rdKp1) := by intro _; show _ &&& _ = _; decide
theorem rdKi1 : Statement (.rdKi1) := by intro _; show _ &&& _ = _; decide
theorem rdKd1 : Statement (.rdKd1) := by intro _; show _ &&& _ = _; decide
theorem rdPstat1 : Statement (.rdPstat1) := by intro _; show _ &&& _ = _; decide
theorem rdMotDuty1 : Statement (.rdMotDuty1) := by intro _; show _ &&& _ = _; decide
theorem rdCmdLin : Statement (.rdCmdLin) := by intro _; show _ &&& _ = _; decide
theorem rdCmdAng : Statement (.rdCmdAng) := by intro _; show _ &&& _ = _; decide
theorem rdTrack : Statement (.rdTrack) := by intro _; show _ &&& _ = _; decide
theorem rdBodyLin : Statement (.rdBodyLin) := by intro _; show _ &&& _ = _; decide
theorem rdBodyAng : Statement (.rdBodyAng) := by intro _; show _ &&& _ = _; decide
theorem rdGstat : Statement (.rdGstat) := by intro _; show _ &&& _ = _; decide
theorem rdZero (a : RegIndex) : Statement (.rdZero a) := by
  intro _; show _ &&& _ = _; revert a; decide
theorem wrKAng0 (v : Word) : Statement (.wrKAng0 v) := fun _ => (write_masked _ v).trans (by decide)
theorem wrRadius0 (v : Word) : Statement (.wrRadius0 v) := fun _ => (write_masked _ v).trans (by decide)
theorem wrFC0 (v : Word) : Statement (.wrFC0 v) := fun _ => (write_masked _ v).trans (by decide)
theorem wrKp0 (v : Word) : Statement (.wrKp0 v) := fun _ => (write_masked _ v).trans (by decide)
theorem wrKi0 (v : Word) : Statement (.wrKi0 v) := fun _ => (write_masked _ v).trans (by decide)
theorem wrKd0 (v : Word) : Statement (.wrKd0 v) := fun _ => (write_masked _ v).trans (by decide)
theorem wrKAng1 (v : Word) : Statement (.wrKAng1 v) := fun _ => (write_masked _ v).trans (by decide)
theorem wrRadius1 (v : Word) : Statement (.wrRadius1 v) := fun _ => (write_masked _ v).trans (by decide)
theorem wrFC1 (v : Word) : Statement (.wrFC1 v) := fun _ => (write_masked _ v).trans (by decide)
theorem wrKp1 (v : Word) : Statement (.wrKp1 v) := fun _ => (write_masked _ v).trans (by decide)
theorem wrKi1 (v : Word) : Statement (.wrKi1 v) := fun _ => (write_masked _ v).trans (by decide)
theorem wrKd1 (v : Word) : Statement (.wrKd1 v) := fun _ => (write_masked _ v).trans (by decide)
theorem wrCmdLin (v : Word) : Statement (.wrCmdLin v) := fun _ => (write_masked _ v).trans (by decide)
theorem wrCmdAng (v : Word) : Statement (.wrCmdAng v) := fun _ => (write_masked _ v).trans (by decide)
theorem wrTrack (v : Word) : Statement (.wrTrack v) := fun _ => (write_masked _ v).trans (by decide)
theorem wrSetpoint0 (v : Word) : Statement (.wrSetpoint0 v) := fun _ => (write_masked _ v).trans (by decide)
theorem wrSetpoint1 (v : Word) : Statement (.wrSetpoint1 v) := fun _ => (write_masked _ v).trans (by decide)
theorem nop : Statement (.nop) := by intro _; show _ &&& _ = _; decide
theorem kinSet : Statement (.kinSet) := by intro _; show _ &&& _ = _; decide
theorem kinGet : Statement (.kinGet) := by intro _; show _ &&& _ = _; decide
theorem enable : Statement (.enable) := by intro _; show _ &&& _ = _; decide
theorem disable : Statement (.disable) := by intro _; show _ &&& _ = _; decide
theorem qrst0 : Statement (.qrst0) := by intro _; show _ &&& _ = _; decide
theorem qrst1 : Statement (.qrst1) := by intro _; show _ &&& _ = _; decide
theorem wrCmdReserved (code : BitVec 8) : Statement (.wrCmdReserved code) := fun _ => (write_masked _ _).trans (by decide)
theorem wrIgnored (a : RegIndex) (v : Word) : Statement (.wrIgnored a v) := fun _ => write_direction a v
theorem noBus : Statement (.noBus) := by intro _; show _ &&& _ = _; decide

end EncodingMatchesRow

end Sys2Proof.Laws
end

