-- ==== Sys2Proof/Laws/Step.lean ====
section
/-! SUPPORT. What an event, a cycle and a step can do, said once. -/

namespace Sys2Proof.Machine

open Sys2Proof

@[simp] theorem runOperations_nil (s : State) : runOperations [] s = .next s := rfl

/-- An operation that answers a next state hands it to the rest (20_memory.md R71). -/
theorem runOperations_cons {i : Instr} {s t : State} (h : exec i s = .next t) (rest : List Instr) :
    runOperations (i :: rest) s = runOperations rest t := by
  simp [runOperations, h]

/-- If the operations of a list answer a next state, the first answered one and the rest ran from it. -/
theorem runOperations_cons_inv {i : Instr} {rest : List Instr} {s t : State}
    (h : runOperations (i :: rest) s = .next t) :
    ∃ m, exec i s = .next m ∧ runOperations rest m = .next t := by
  unfold runOperations at h
  split at h
  · exact ⟨_, ‹_›, h⟩
  · cases h
  · cases h

/-- Running two lists is running the one and then the other. -/
theorem runOperations_append {xs : List Instr} {s t : State} (h : runOperations xs s = .next t)
    (ys : List Instr) : runOperations (xs ++ ys) s = runOperations ys t := by
  induction xs generalizing s with
  | nil => cases h; rfl
  | cons i rest ih =>
    obtain ⟨m, hm, hr⟩ := runOperations_cons_inv h
    rw [List.cons_append, runOperations_cons hm]
    exact ih hr

/-- What every operation keeps, a list of operations keeps. -/
theorem runOperations_keeps {P : State → Prop}
    (one : ∀ i s t, P s → exec i s = .next t → P t) {xs : List Instr} {s t : State} (hs : P s)
    (h : runOperations xs s = .next t) : P t := by
  induction xs generalizing s with
  | nil => cases h; exact hs
  | cons i rest ih =>
    obtain ⟨m, hm, hr⟩ := runOperations_cons_inv h
    exact ih (one i s m hs hm) hr

/-- A cycle answers what its operations leave, with the strobes unless it was a reset cycle (20_memory.md R70). -/
theorem cycle_of_operations {p : Input} {s t : State} (h : runOperations (s.operations p) s = .next t) :
    cycle p s = .next (if p.rst then t else t.strobes p) := by
  simp [cycle, h]

/-- If a cycle answers a next state, its operations did. -/
theorem cycle_inv {p : Input} {s t : State} (h : cycle p s = .next t) :
    ∃ m, runOperations (s.operations p) s = .next m ∧ t = if p.rst then m else m.strobes p := by
  unfold cycle at h
  split at h
  · exact ⟨_, ‹_›, by injection h with h; exact h.symm⟩
  · cases h
  · cases h

@[simp] theorem runEvents_nil (s : State) : runEvents [] s = .next s := rfl

/-- An event that answers a next state hands it to the rest. -/
theorem runEvents_cons {e : Event} {s t : State} (h : eventStep e s = .next t) (rest : List Event) :
    runEvents (e :: rest) s = runEvents rest t := by
  simp [runEvents, h]

@[simp] theorem eventStep_operation (i : Instr) (s : State) : eventStep (.operation i) s = exec i s := rfl

@[simp] theorem eventStep_strobes (p : Input) (s : State) :
    eventStep (.strobes p.ctick0 p.ctick1) s = .next (s.strobes p) := rfl

@[simp] theorem eventStep_input (s : State) : eventStep .input s = .next s.taken := rfl

/-- Everything an event can do: an operation, new strobes, or the passing of an input word (00_scope.md R18). -/
theorem eventStep_inv {e : Event} {s t : State} (h : eventStep e s = .next t) :
    (∃ i, e = .operation i ∧ exec i s = .next t) ∨ (∃ p : Input, t = s.strobes p) ∨ t = s.taken := by
  cases e with
  | operation i => exact .inl ⟨i, rfl, h⟩
  | strobes l r => exact .inr (.inl ⟨_, by injection h with h; exact h.symm⟩)
  | input => exact .inr (.inr (by injection h with h; exact h.symm))

/-- A step is the cycle of the next input word. -/
theorem step_eq (s : State) : step s = cycle (Input.ofWord s.nextWord) s.taken := rfl

/-- The operations of a reset cycle: `RESET` alone (70_reset_and_hazards.md R200). -/
theorem operations_of_reset {p : Input} (h : p.rst = true) (s : State) :
    s.operations p = [.reset p.encA0 p.encB0 p.encA1 p.encB1] := by
  simp [State.operations, decodeCycle, h]

/-- The operations of any other cycle, in order (20_memory.md R70). -/
theorem operations_of_no_reset {p : Input} (h : p.rst = false) (s : State) :
    s.operations p =
      [decodeTransition .left (s.left.code p.encA0 p.encB0),
        decodeTransition .right (s.right.code p.encA1 p.encB1), decodeBus p]
        ++ (if p.stick0 then [.stick0] else []) ++ (if p.stick1 then [.stick1] else [])
        ++ (if p.ctick0 then [.ctick0] else []) ++ (if p.ctick1 then [.ctick1] else []) := by
  simp [State.operations, decodeCycle, h]

/-- A run of one more step starts with the step (00_scope.md R19). -/
theorem run_succ_of_step {m : Host.Core} {s t : m.State} (h : m.step s = .next t) (n : Nat) :
    m.run (n + 1) s = m.run n t := by
  rw [Host.Core.run, h]

/-- Placing a pattern wider than a byte makes it the next input word. -/
theorem nextWord_withFetchWord {nbits : Nat} (h : 8 < nbits) (s : State) (w : Nat) :
    (s.withFetchWord nbits w).nextWord = BitVec.ofNat 51 w := by
  simp [State.withFetchWord, placePattern, show ¬ nbits ≤ 8 by omega]

end Sys2Proof.Machine
end

