-- ==== Sys2Proof/Tests/Slice0.lean ====
section
/-! SUPPORT. Tests: the well-formedness smoke, words written out from the encoding, and single steps whose
expected values are the spec's own (95_test_vectors.md). -/

namespace Sys2Proof.Tests

open Sys2Proof Sys2Proof.Machine

/-! Helpers. -/

/-- What a reader reads off the next state, if there is one. -/
def after {α : Type} (f : State → α) : Host.Outcome State Fault Refusal → Option α
  | .next t => some (f t)
  | .fault _ => none
  | .refused _ => none

/-- A channel as reset leaves it, pins low. -/
def ch : Channel := Channel.reset false false

/-- The reset state with another left channel. -/
def withLeft (c : Channel) : State := { State.reset with left := c }

/-- The reset state with another right channel. -/
def withRight (c : Channel) : State := { State.reset with right := c }

/-- A channel whose register at offset `o` holds `n + o` (20_memory.md R68). -/
def numbered (n : Nat) : Channel :=
  { ch with
    count := BitVec.ofNat 32 n, prevCount := BitVec.ofNat 32 (n + 0x02), angVel := BitVec.ofNat 32 (n + 0x03)
    linVel := BitVec.ofNat 32 (n + 0x04), kAng := BitVec.ofNat 32 (n + 0x05), radius := BitVec.ofNat 32 (n + 0x06)
    setpoint := BitVec.ofNat 32 (n + 0x07), error := BitVec.ofNat 32 (n + 0x08)
    prevErr := BitVec.ofNat 32 (n + 0x09), integral := BitVec.ofNat 32 (n + 0x0A)
    duty := BitVec.ofNat 32 (n + 0x0B), ticks := BitVec.ofNat 32 (n + 0x0C), fC := BitVec.ofNat 32 (n + 0x0D)
    kp := BitVec.ofNat 32 (n + 0x0E), ki := BitVec.ofNat 32 (n + 0x0F), kd := BitVec.ofNat 32 (n + 0x10)
    motMag := BitVec.ofNat 17 (n + 0x12) }

/-- Every register a number of its own: the left channel from 0x100, the right from 0x200, the globals from 0x341. -/
def marked : State :=
  { State.reset with
    left := numbered 0x100, right := numbered 0x200, cmdLin := 0x341, cmdAng := 0x342, track := 0x343
    bodyLin := 0x344, bodyAng := 0x345 }

/-- The state whose next input word is `i` (30_encoding.md R80). -/
def fed (s : State) (i : InputWord) : State := s.present i

/-! Well-formedness: each check refuses an ill-formed operation (20_memory.md R68, 30_encoding.md R89, R90). -/

theorem test_wf_read_of_a_register_is_no_catch_all : ¬ (Instr.rdZero 0x04#8).WellFormed := by decide
theorem test_wf_read_catch_all_bounds :
    ([0x12, 0x13, 0x1F, 0x20, 0x32, 0x33, 0x3F, 0x40, 0x41, 0x46, 0x47, 0xFF].map
      fun n => (Instr.rdZero (BitVec.ofNat 8 n)).wellFormed) =
    [false, true, true, false, false, true, true, true, false, false, true, true] := by decide
theorem test_wf_write_of_a_register_is_not_ignored : ¬ (Instr.wrIgnored 0x05#8 7#32).WellFormed := by decide
theorem test_wf_write_catch_all_bounds :
    ([0x00, 0x04, 0x05, 0x07, 0x08, 0x0C, 0x0D, 0x10, 0x11, 0x24, 0x25, 0x30, 0x31, 0x3F, 0x40, 0x43, 0x44, 0xFF].map
      fun n => (Instr.wrIgnored (BitVec.ofNat 8 n) 7#32).wellFormed) =
    [true, true, false, false, true, true, false, false, true, true, false, false, true, true, false, false, true,
      true] := by decide
theorem test_wf_command_is_not_reserved : ¬ (Instr.wrCmdReserved 0x06#8).WellFormed := by decide
theorem test_wf_reserved_bounds :
    (Instr.wrCmdReserved 0x07#8).WellFormed ∧ (Instr.wrCmdReserved 0xFF#8).WellFormed := by decide

/-! Decoding: words written out from 30_encoding.md R80, R82, R83 and R88. Each pair is a pattern and the
operation it stands for; every constructor stands in one of the lists. -/

/-- Every listed pattern of `nbits` bits decodes to the operation beside it. -/
def allDecode (nbits : Nat) (rows : List (Nat × Instr)) : Bool :=
  rows.all fun r => decodeTableWord nbits r.1 == some r.2

theorem test_decode_transitions :
    allDecode 4 [
      (0b0000, .qnop0000 .left), (0b0101, .qnop0101 .left), (0b1010, .qnop1010 .left), (0b1111, .qnop1111 .left),
      (0b0010, .qaR0 .left), (0b0111, .qaR1 .left), (0b1000, .qaF0 .left), (0b1101, .qaF1 .left),
      (0b0001, .qbR0 .left), (0b1011, .qbR1 .left), (0b0100, .qbF0 .left), (0b1110, .qbF1 .left),
      (0b0011, .qdbl0011 .left), (0b0110, .qdbl0110 .left), (0b1001, .qdbl1001 .left), (0b1100, .qdbl1100 .left)] = true := by decide
theorem test_decode_reset_and_ticks :
    allDecode 51 [
      (0x7400000000000, .reset true false true true), (0x4800000000000, .reset false true false false),
      (0x0040000000000, .stick0), (0x0080000000000, .stick1), (0x0100000000000, .ctick0),
      (0x0200000000000, .ctick1)] = true := by decide
theorem test_decode_left_reads :
    allDecode 51 [
      (0x0020000000000, .rdCount0), (0x0020100000000, .rdQstat0), (0x0020200000000, .rdPrevCount0),
      (0x0020300000000, .rdAngVel0), (0x0020400000000, .rdLinVel0), (0x0020500000000, .rdKAng0),
      (0x0020600000000, .rdRadius0), (0x0020700000000, .rdSetpoint0), (0x0020800000000, .rdError0),
      (0x0020900000000, .rdPrevErr0), (0x0020A00000000, .rdIntegral0), (0x0020B00000000, .rdDuty0),
      (0x0020C00000000, .rdTicks0), (0x0020D00000000, .rdFC0), (0x0020E00000000, .rdKp0),
      (0x0020F00000000, .rdKi0), (0x0021000000000, .rdKd0), (0x0021100000000, .rdPstat0),
      (0x0021200000000, .rdMotDuty0)] = true := by decide
theorem test_decode_right_reads :
    allDecode 51 [
      (0x0022000000000, .rdCount1), (0x0022100000000, .rdQstat1), (0x0022200000000, .rdPrevCount1),
      (0x0022300000000, .rdAngVel1), (0x0022400000000, .rdLinVel1), (0x0022500000000, .rdKAng1),
      (0x0022600000000, .rdRadius1), (0x0022700000000, .rdSetpoint1), (0x0022800000000, .rdError1),
      (0x0022900000000, .rdPrevErr1), (0x0022A00000000, .rdIntegral1), (0x0022B00000000, .rdDuty1),
      (0x0022C00000000, .rdTicks1), (0x0022D00000000, .rdFC1), (0x0022E00000000, .rdKp1),
      (0x0022F00000000, .rdKi1), (0x0023000000000, .rdKd1), (0x0023100000000, .rdPstat1),
      (0x0023200000000, .rdMotDuty1)] = true := by decide
theorem test_decode_global_reads :
    allDecode 51 [
      (0x0024100000000, .rdCmdLin), (0x0024200000000, .rdCmdAng), (0x0024300000000, .rdTrack),
      (0x0024400000000, .rdBodyLin), (0x0024500000000, .rdBodyAng), (0x0024600000000, .rdGstat)] = true := by decide
theorem test_decode_left_writes :
    allDecode 51 [
      (0x00305A5C30F96, .wrKAng0 0xA5C30F96#32), (0x00306A5C30F96, .wrRadius0 0xA5C30F96#32),
      (0x0030DA5C30F96, .wrFC0 0xA5C30F96#32), (0x0030EA5C30F96, .wrKp0 0xA5C30F96#32),
      (0x0030FA5C30F96, .wrKi0 0xA5C30F96#32), (0x00310A5C30F96, .wrKd0 0xA5C30F96#32),
      (0x00307A5C30F96, .wrSetpoint0 0xA5C30F96#32)] = true := by decide
theorem test_decode_right_writes :
    allDecode 51 [
      (0x00325A5C30F96, .wrKAng1 0xA5C30F96#32), (0x00326A5C30F96, .wrRadius1 0xA5C30F96#32),
      (0x0032DA5C30F96, .wrFC1 0xA5C30F96#32), (0x0032EA5C30F96, .wrKp1 0xA5C30F96#32),
      (0x0032FA5C30F96, .wrKi1 0xA5C30F96#32), (0x00330A5C30F96, .wrKd1 0xA5C30F96#32),
      (0x00327A5C30F96, .wrSetpoint1 0xA5C30F96#32)] = true := by decide
theorem test_decode_global_writes :
    allDecode 51 [
      (0x00341A5C30F96, .wrCmdLin 0xA5C30F96#32), (0x00342A5C30F96, .wrCmdAng 0xA5C30F96#32),
      (0x00343A5C30F96, .wrTrack 0xA5C30F96#32)] = true := by decide
theorem test_decode_commands :
    allDecode 51 [
      (0x0034000000000, .nop), (0x0034000000001, .kinSet), (0x0034000000002, .kinGet), (0x0034000000003, .enable),
      (0x0034000000004, .disable), (0x0034000000005, .qrst0), (0x0034000000006, .qrst1)] = true := by decide
theorem test_decode_without_effect :
    allDecode 51 [
      (0x0021300000000, .rdZero 0x13#8), (0x0024000000000, .rdZero 0x40#8), (0x002FF00000000, .rdZero 0xFF#8),
      (0x0034000000007, .wrCmdReserved 0x07#8), (0x00340FFFFFFFF, .wrCmdReserved 0xFF#8),
      (0x00300A5C30F96, .wrIgnored 0x00#8 0xA5C30F96#32), (0x00344A5C30F96, .wrIgnored 0x44#8 0xA5C30F96#32),
      (0x00380A5C30F96, .wrIgnored 0x80#8 0xA5C30F96#32), (0x0000000000000, .noBus)] = true := by decide

/-- The same for the right wheel: its code is formed from its own levels (30_encoding.md R82). -/
theorem test_decode_right_wheel_transitions :
    (decodeTransition .right (transitionCode false false true false) = .qaR0 .right) ∧
    (decodeTransition .right (transitionCode true false true true) = .qbR1 .right) ∧
    (decodeTransition .right (transitionCode true true false true) = .qaF1 .right) ∧
    (decodeTransition .right (transitionCode false true true false) = .qdbl0110 .right) := by decide

/-- A word bit by bit, `rst` first, then `enc_b[1]` down to `enc_a[0]`, the ticks, `bus_req`, `bus_we`, the index and
the data (30_encoding.md R80): `WR SETPOINT[0], 0x00004CCD`. -/
theorem test_decode_written_bits_of_a_write :
    decodeTableWord 51 0b0_0000_0000_1_1_00000111_00000000000000000100110011001101 =
      some (.wrSetpoint0 0x00004CCD#32) := by decide

/-- Bit by bit: `RD LIN_VEL[1]` (index 0x24). -/
theorem test_decode_written_bits_of_a_read :
    decodeTableWord 51 0b0_0000_0000_1_0_00100100_00000000000000000000000000000000 = some .rdLinVel1 := by decide

/-- Bit by bit: `WR CMD, 0x02`, `KIN_GET`. -/
theorem test_decode_written_bits_of_a_command :
    decodeTableWord 51 0b0_0000_0000_1_1_01000000_00000000000000000000000000000010 = some .kinGet := by decide

/-- Bit by bit: `CTICK 1` is bit 45, `STICK 1` is bit 43. -/
theorem test_decode_written_bits_of_the_ticks :
    decodeTableWord 51 0b0_0000_1000_0_0_00000000_00000000000000000000000000000000 = some .ctick1 ∧
    decodeTableWord 51 0b0_0000_0010_0_0_00000000_00000000000000000000000000000000 = some .stick1 := by decide

/-- A pattern wider than its format is rejected by name. -/
theorem test_decode_rejects_wide_patterns :
    (decodeBits 4 0b10000 matches .error .transitionWiderThanFourBits) = true ∧
    (decodeBits 51 0x8000000000000 matches .error .inputWiderThan51Bits) = true := by decide

/-- One word selects every operation of a cycle, in order (20_memory.md R70; 95_test_vectors.md P4 cycle 7 with an edge of
the left wheel). -/
theorem test_decode_cycle_in_phase_order :
    decodeCycle 0b1011#4 0b1111#4 (Input.ofWord 0x3D70700030000#51) =
      [.qbR1 .left, .qnop1111 .right, .wrSetpoint0 0x00030000#32, .stick0, .ctick0] := by decide

/-! Quadrature decoder, 95_test_vectors.md section 2.1. -/

/-- V1 to V8: a left channel at `COUNT` 100 with stored levels `aQ`, `bQ`, and what a transition leaves. -/
def edgeFrom (aQ bQ : Bool) (i : Instr) : Option (Word × Bool × Bool) :=
  after (fun t => (t.left.count, t.left.aQ, t.left.bQ)) (exec i (withLeft { ch with count := 100, aQ := aQ, bQ := bQ }))

theorem test_v1_qaR0 : edgeFrom false false (.qaR0 .left) = some (101, true, false) := by decide
theorem test_v2_qaR1 : edgeFrom false true (.qaR1 .left) = some (99, true, true) := by decide
theorem test_v3_qaF0 : edgeFrom true false (.qaF0 .left) = some (99, false, false) := by decide
theorem test_v4_qaF1 : edgeFrom true true (.qaF1 .left) = some (101, false, true) := by decide
theorem test_v5_qbR0 : edgeFrom false false (.qbR0 .left) = some (99, false, true) := by decide
theorem test_v6_qbR1 : edgeFrom true false (.qbR1 .left) = some (101, true, true) := by decide
theorem test_v7_qbF0 : edgeFrom false true (.qbF0 .left) = some (101, false, false) := by decide
theorem test_v8_qbF1 : edgeFrom true true (.qbF1 .left) = some (99, true, false) := by decide

/-- V9. -/
theorem test_v9_qnop :
    edgeFrom false false (.qnop0000 .left) = some (100, false, false) ∧
    edgeFrom false true (.qnop0101 .left) = some (100, false, true) ∧
    edgeFrom true false (.qnop1010 .left) = some (100, true, false) ∧
    edgeFrom true true (.qnop1111 .left) = some (100, true, true) := by decide

/-- V10, the free draw: whatever it is, the count is 8, 10 or 12 and the levels are the sampled ones. -/
theorem test_v10_qdbl (n : Nat) :
    ∀ t, exec (.qdbl0011 .left) { withLeft { ch with count := 10 } with
        env := { inputs := [], cycle := 0, drawsLeft := n, drawsRight := 0 } } = .next t →
      (t.left.count = 8 ∨ t.left.count = 10 ∨ t.left.count = 12) ∧ t.left.aQ = true ∧ t.left.bQ = true := by
  have key : ∀ q : Draw, toReg (wrap32 (s32 10 + q.toInt)) = 8 ∨ toReg (wrap32 (s32 10 + q.toInt)) = 10 ∨
      toReg (wrap32 (s32 10 + q.toInt)) = 12 := fun q => by cases q <;> decide
  intro t h
  cases h
  exact ⟨key (Config.qdblDraw .left n), rfl, rfl⟩

/-- V11 and V12, the wrap. -/
theorem test_v11_count_wraps_up :
    after (·.left.count) (exec (.qaR0 .left) (withLeft { ch with count := 0x7FFFFFFF })) = some 0x80000000 := by decide
theorem test_v12_count_wraps_down :
    after (·.left.count) (exec (.qbR0 .left) (withLeft { ch with count := 0x80000000 })) = some 0x7FFFFFFF := by decide

/-- V13: `QRST 0`, `QRST 1`. -/
theorem test_v13_qrst0 :
    after (fun t => (t.left.count, t.left.prevCount, t.left.aQ, t.left.bQ))
      (exec .qrst0 (withLeft { ch with count := 1234, prevCount := 1200, aQ := true })) =
      some (0, 1200, true, false) := by decide
theorem test_v13_qrst1 :
    after (fun t => (t.left.count, t.right.count)) (exec .qrst1 marked) = some (0x100, 0) := by decide

/-! Velocity estimator, section 2.2. -/

/-- `K_ANG` and `RADIUS` of the vectors' start. -/
def sampler (count prev : Word) : Channel :=
  { ch with kAng := 0x003A5232, radius := 0x00066666, count := count, prevCount := prev }

/-- What `STICK 0` leaves: `ANG_VEL`, `LIN_VEL`, `PREV_COUNT`. -/
def sampled (c : Channel) : Option (Word × Word × Word) :=
  after (fun t => (t.left.angVel, t.left.linVel, t.left.prevCount)) (exec .stick0 (withLeft c))

theorem test_v16_v17_stick0 :
    sampled (sampler 28 0) = some (0x000660FD, 0x000028D3, 28) ∧
    sampled (sampler (-28) 0) = some (0xFFF99F02, 0xFFFFD72C, -28) := by decide
theorem test_v19c_v19d_stick0_wrap_and_saturation :
    sampled (sampler 0x80000001 0x7FFFFFFF) = some (29860, 746, 0x80000001) ∧
    sampled { ch with kAng := 0x01000000, radius := 0x01000000, count := 0x80000000 } =
      some (0x80000000, 0x80000000, 0x80000000) ∧
    sampled { ch with kAng := 0x01000000, radius := 0x7FFFFFFF, count := 100 } =
      some (6553600, 0x31FFFFFF, 100) := by decide
/-- V19e on the right wheel: the signs of the two constants. -/
theorem test_v19e_stick1_signs :
    after (fun t => (t.right.angVel, t.right.linVel, t.left.angVel)) (exec .stick1
      (withRight { ch with kAng := toReg (-3822130), radius := 419430, count := 28 })) =
      some (toReg (-418046), toReg (-10452), 0) ∧
    after (fun t => (t.right.angVel, t.right.linVel, t.right.prevCount)) (exec .stick1
      (withRight { ch with kAng := 3822130, radius := toReg (-419430), count := 28 })) =
      some (418045, toReg (-10452), 28) := by decide

/-! Regulator, section 2.3. -/

/-- The registers a control tick writes. -/
structure Regs where
  error : Word
  prevErr : Word
  integral : Word
  duty : Word
  ticks : Word
  mode : Bool
  motCmd : BitVec 2
  motMag : BitVec 17
deriving DecidableEq

/-- The regulator's registers of a channel. -/
def regs (c : Channel) : Regs :=
  ⟨c.error, c.prevErr, c.integral, c.duty, c.ticks, c.mode, c.motCmd, c.motMag⟩

/-- `CTICK 0` at a channel. -/
def ticked (c : Channel) : Option Regs := after (regs ·.left) (exec .ctick0 (withLeft c))

/-- `CTICK 1` at a channel. -/
def ticked1 (c : Channel) : Option Regs := after (regs ·.right) (exec .ctick1 (withRight c))

/-- V20 (ticks 1 and 3) and V21. -/
theorem test_v20_v21_ctick0_regulates :
    ticked { ch with setpoint := 19661, linVel := 10451 } =
      some ⟨9210, 9210, 9210, 22103, 1, true, 1, 22103⟩ ∧
    ticked { ch with setpoint := 19661, linVel := 22000, prevErr := 9210, integral := 18420, duty := 33154, ticks := 2 } =
      some ⟨toReg (-2339), toReg (-2339), 16081, 16488, 3, true, 1, 16488⟩ ∧
    ticked { ch with
        setpoint := 19661, linVel := 10451, ki := 6554, integral := 1000, prevErr := 200
        duty := toReg (-5000), ticks := 7 } =
      some ⟨9210, 9210, 10210, 17885, 8, true, 1, 17885⟩ := by decide

/-- V22 and V24a: the idle branch, by a zero setpoint and by a timeout. -/
theorem test_v22_v24a_ctick0_idles :
    ticked { ch with
        duty := 30000, prevErr := 55, integral := 66, error := 77, ticks := 3, mode := true
        motCmd := 1, motMag := 30000 } =
      some ⟨77, 0, 66, 30000, 3, false, 0, 0⟩ ∧
    ticked { ch with
        setpoint := 19661, ticks := 51, duty := 65536, prevErr := 19661, error := 19661
        integral := 1002711, mode := true, motCmd := 1, motMag := 65536 } =
      some ⟨19661, 0, 1002711, 65536, 51, false, 0, 0⟩ := by decide

/-- V26, V27, V28 on the right wheel: clamp low, floor of a negative sum, forward at zero duty. -/
theorem test_v26_v27_v28_ctick1 :
    ticked1 { ch with setpoint := toReg (-65536), duty := toReg (-60000) } =
      some ⟨toReg (-65536), toReg (-65536), toReg (-65536), toReg (-65536), 1, true, 2, 65536⟩ ∧
    ticked1 { ch with setpoint := toReg (-19661) } =
      some ⟨toReg (-19661), toReg (-19661), toReg (-19661), toReg (-47187), 1, true, 2, 47187⟩ ∧
    ticked1 { ch with setpoint := 1, kp := 1, kd := 0 } =
      some ⟨1, 1, 1, 0, 1, true, 1, 0⟩ := by decide

/-- V29, V31: saturation of the error and the integral; the stuck counter. -/
theorem test_v29_v31_ctick1 :
    ticked1 { ch with kp := 0, kd := 0, setpoint := 0x7FFFFFFF, linVel := 0x80000000, integral := 5 } =
      some ⟨0x7FFFFFFF, 0x7FFFFFFF, 0x7FFFFFFF, 0, 1, true, 1, 0⟩ ∧
    after (fun t => (t.right.ticks, t.right.mode)) (exec .ctick1 (withRight { ch with
        kp := 0, kd := 0, setpoint := 100, fC := 0xFFFFFFFF, ticks := 0xFFFFFFFF })) =
      some (0xFFFFFFFF, true) := by decide

/-- The start of V33 and V34. -/
def settled : Channel :=
  { ch with
    setpoint := 19661, integral := 777, prevErr := toReg (-5), ticks := 9, duty := 1234, error := 42, mode := true }

/-- V33, V34. -/
theorem test_v33_wrSetpoint0_same_value :
    after (·.left) (exec (.wrSetpoint0 0x00004CCD) (withLeft settled)) = some settled := by decide
theorem test_v34_wrSetpoint0_new_value :
    after (·.left) (exec (.wrSetpoint0 0x00004CCE) (withLeft settled)) =
      some { settled with setpoint := 19662, integral := 0, prevErr := 0, ticks := 0 } := by decide
theorem test_v34_wrSetpoint1 :
    after (fun t => (t.right.setpoint, t.right.ticks, t.right.duty, t.left.setpoint))
      (exec (.wrSetpoint1 0x80000000) (withRight settled)) = some (0x80000000, 0, 1234, 0) := by decide

/-! Kinematics, section 2.4. -/

/-- `KIN_SET` from the vectors' start: both setpoints, integrals and stall counters. -/
def kinSetFrom (lin ang track sp0 sp1 : Word) : Option ((Word × Word × Word) × Word × Word × Word) :=
  after (fun t => ((t.left.setpoint, t.left.integral, t.left.ticks),
      t.right.setpoint, t.right.integral, t.right.ticks))
    (exec .kinSet { State.reset with
      left := { ch with setpoint := sp0, integral := 11, ticks := 3 }
      right := { ch with setpoint := sp1, integral := 22, ticks := 4 }
      cmdLin := lin, cmdAng := ang, track := track })

/-- V36, V38, V38a, V38b. -/
theorem test_v36_v38_kinSet :
    kinSetFrom 19661 104858 7995 0 0 = some ((13265, 0, 0), 26057, 0, 0) ∧
    kinSetFrom 0 0 7995 5 6 = some ((0, 0, 0), 0, 0, 0) ∧
    kinSetFrom 0 1 1 0 0 = some ((0, 11, 3), 0, 22, 4) ∧
    kinSetFrom 0 (-1) 1 0 0 = some ((1, 0, 0), -1, 0, 0) := by decide
/-- V38c, V38e, V38f; and a product of 2^49, where `h` saturates (92_eei_decisions.md D21). -/
theorem test_v38c_v38f_kinSet :
    kinSetFrom 0x7FFFFFFF 131072 1 0 0 = some ((2147483646, 0, 0), 2147483647, 0, 0) ∧
    kinSetFrom 6396 104858 7995 0 0 = some ((0, 11, 3), 12792, 0, 0) ∧
    kinSetFrom 0 65536 (-65536) 0 0 = some ((32768, 0, 0), -32768, 0, 0) ∧
    kinSetFrom 0x7FFFFFFF 0x02000000 0x01000000 7 0 = some ((0, 0, 0), 0x7FFFFFFF, 0, 0) := by decide

/-- `KIN_GET`: `BODY_LIN`, `BODY_ANG`. -/
def kinGetFrom (l r track : Word) : Option (Word × Word) :=
  after (fun t => (t.bodyLin, t.bodyAng))
    (exec .kinGet { State.reset with
      left := { ch with linVel := l }, right := { ch with linVel := r }, track := track })

/-- V40 to V46. -/
theorem test_v40_v46_kinGet :
    kinGetFrom 13265 26057 7995 = some (19661, 104857) ∧ kinGetFrom 1 0 7995 = some (0, 0xFFFFFFF7) ∧
    kinGetFrom (-1) 0 7995 = some (0xFFFFFFFF, 8) ∧ kinGetFrom 0 (-1) 7995 = some (-1, -9) ∧
    kinGetFrom 0 65536 1 = some (32768, 0x7FFFFFFF) ∧ kinGetFrom 65536 0 1 = some (32768, 0x80000000) ∧
    kinGetFrom 0 1 (-7995) = some (0, -9) := by decide
/-- V47 to V51. -/
theorem test_v47_v51_kinGet :
    kinGetFrom 5 5 0 = some (5, 0) ∧ kinGetFrom 5 6 0 = some (5, 0x7FFFFFFF) ∧
    kinGetFrom 6 5 0 = some (5, 0x80000000) ∧ kinGetFrom 0x7FFFFFFF 0x7FFFFFFF 7995 = some (0x7FFFFFFF, 0) ∧
    kinGetFrom 0x80000000 0x7FFFFFFF 65536 = some (-1, 0x7FFFFFFF) := by decide

/-! The register port, section 2.5 and 20_memory.md R68. -/

/-- What each of a list of reads drives on `bus_rdata`. -/
def readAll (l : List Instr) (s : State) : List (Option Word) := l.map fun i => after (·.busRdata) (exec i s)

/-- The expected data of the marked registers. -/
def numbers (l : List Nat) : List (Option Word) := l.map fun n => some (BitVec.ofNat 32 n)

theorem test_left_reads :
    readAll [.rdCount0, .rdPrevCount0, .rdAngVel0, .rdLinVel0, .rdKAng0, .rdRadius0, .rdSetpoint0, .rdError0,
      .rdPrevErr0, .rdIntegral0, .rdDuty0, .rdTicks0, .rdFC0, .rdKp0, .rdKi0, .rdKd0, .rdMotDuty0] marked =
    numbers [0x100, 0x102, 0x103, 0x104, 0x105, 0x106, 0x107, 0x108, 0x109, 0x10A, 0x10B, 0x10C, 0x10D, 0x10E, 0x10F,
      0x110, 0x112] := by decide
theorem test_right_reads :
    readAll [.rdCount1, .rdPrevCount1, .rdAngVel1, .rdLinVel1, .rdKAng1, .rdRadius1, .rdSetpoint1, .rdError1,
      .rdPrevErr1, .rdIntegral1, .rdDuty1, .rdTicks1, .rdFC1, .rdKp1, .rdKi1, .rdKd1, .rdMotDuty1] marked =
    numbers [0x200, 0x202, 0x203, 0x204, 0x205, 0x206, 0x207, 0x208, 0x209, 0x20A, 0x20B, 0x20C, 0x20D, 0x20E, 0x20F,
      0x210, 0x212] := by decide
theorem test_global_reads :
    readAll [.rdCmdLin, .rdCmdAng, .rdTrack, .rdBodyLin, .rdBodyAng, .rdGstat, .rdZero 0x40#8, .rdZero 0x13#8,
      .rdZero 0xFF#8] marked = numbers [0x341, 0x342, 0x343, 0x344, 0x345, 0, 0, 0, 0] := by decide
/-- V64: the status words. -/
theorem test_v64_status_words :
    readAll [.rdPstat0, .rdMotDuty0, .rdQstat0] (withLeft { ch with
      mode := true, motCmd := 2, motStb := true, motMag := 65536, aQ := true }) =
      numbers [0x0D, 0x00010000, 0x01] ∧
    readAll [.rdPstat1, .rdMotDuty1, .rdQstat1] (withRight { ch with
      mode := true, motCmd := 2, motMag := 65536, bQ := true }) = numbers [0x05, 0x00010000, 0x02] := by decide
/-- V60: reads after reset. -/
theorem test_v60_reads_after_reset :
    readAll [.rdCount0, .rdFC0, .rdKp0, .rdKi0, .rdKd0, .rdPstat0, .rdGstat, .rdQstat0]
      (State.reset.resetTo true false false false) =
      numbers [0, 0x32, 0x13333, 0, 0x13333, 0, 0, 1] := by decide

/-- The registers at the writable indices after a write: only the written one changed (V61). -/
def written (i : Instr) : Option (List Word) :=
  after (fun t => [t.left.kAng, t.left.radius, t.left.fC, t.left.kp, t.left.ki, t.left.kd, t.right.kAng,
    t.right.radius, t.right.fC, t.right.kp, t.right.ki, t.right.kd, t.cmdLin, t.cmdAng, t.track]) (exec i marked)

/-- The marked registers at the writable indices, with `v` at place `k`. -/
def markedBut (k : Nat) (v : Word) : Option (List Word) :=
  some (([0x105, 0x106, 0x10D, 0x10E, 0x10F, 0x110, 0x205, 0x206, 0x20D, 0x20E, 0x20F, 0x210, 0x341, 0x342,
    0x343] : List Word).set k v)

theorem test_v61_plain_stores :
    ([.wrKAng0 7#32, .wrRadius0 7#32, .wrFC0 7#32, .wrKp0 7#32, .wrKi0 7#32, .wrKd0 7#32, .wrKAng1 7#32, .wrRadius1 7#32,
      .wrFC1 7#32, .wrKp1 7#32, .wrKi1 7#32, .wrKd1 7#32, .wrCmdLin 7#32, .wrCmdAng 7#32, .wrTrack 7#32].map written) =
    (List.range 15).map (markedBut · 7#32) := by decide

/-- V62: ignored writes; V63: a reserved code, `NOP`, and a cycle without an operation. -/
theorem test_v62_v63_no_effect :
    ([.wrIgnored 0x00#8 99#32, .wrIgnored 0x44#8 7#32, .wrIgnored 0x80#8 1#32, .wrCmdReserved 0x07#8, .nop, .noBus].map
      fun i => after id (exec i marked)) = List.replicate 6 (some marked) := by decide
/-- V63. -/
theorem test_v63_enable_disable :
    after (fun t => (t.en, t.outputs.drvEn)) (exec .enable marked) = some (true, true) ∧
    after (fun t => (t.en, t.outputs.drvEn)) (exec .disable { marked with en := true }) = some (false, false) := by
  decide

/-! One clock cycle. -/

/-- V66: `RESET` excludes all else (70_reset_and_hazards.md R200). -/
theorem test_v66_reset_priority :
    after id (step (fed marked 0x77F0E00020000#51)) =
      some { State.reset with left := Channel.reset true false, right := Channel.reset true true } := by decide
/-- V65 (a): a read sees the count after the edge of its cycle. -/
theorem test_v65a_edge_then_read :
    after (fun t => (t.busRdata, t.left.count)) (step (fed State.reset 0x0420000000000#51)) = some (1, 1) := by decide
/-- V65 (b): a read sees the velocity of before the tick. -/
theorem test_v65b_read_then_sample :
    after (fun t => (t.busRdata, t.left.linVel)) (step (fed (withLeft (sampler 28 0)) 0x0060400000000#51)) =
      some (0, 10451) := by decide
/-- P4 cycle 7: write, then sample, then control; the strobe shows the tick (20_memory.md R72). -/
theorem test_p4_cycle_7 :
    after (fun t => (t.left.error, t.left.duty, t.left.ticks, t.left.motMag, t.left.motStb, t.left.linVel))
      (step (fed { State.reset with
        left := { ch with
          aQ := false, bQ := true, count := 2, prevCount := 2, linVel := 131072, kAng := 0x01000000,
          radius := 0x01000000 }
        right := Channel.reset true true } 0x3970700030000#51)) =
      some (196608, 65536, 1, 65536, true, 0) := by decide
/-- P3 cycles 12 and 18: two edges in one cycle; a command with pins held. -/
theorem test_p3_cycles :
    after (fun t => (t.left.count, t.right.count)) (step (fed State.reset 0x1400000000000#51)) = some (1, 1) ∧
    after (fun t => (t.bodyLin, t.bodyAng)) (step (fed { State.reset with
      left := { ch with bQ := true, linVel := 768 }, right := { ch with aQ := true, linVel := 1280 }, track := 7995 }
      0x1834000000002#51)) = some (1024, 4196) := by decide
/-- A placed pattern is the next cycle's: an input word, or the left wheel's transition code (log 7). -/
theorem test_placed_patterns_run :
    after (·.left.kp) (step (marked.withFetchWord 51 0x0030E00020000)) = some 0x00020000 ∧
    after (fun t => (t.left.count, t.left.aQ, t.left.bQ)) (step (State.reset.withFetchWord 4 0b1110)) =
      some (0xFFFFFFFF, true, false) := by decide

/-! Witnesses: for each statement with hypotheses, a state and operands that meet them all. -/

theorem witness_DecodeEncodeAgree :
    (Instr.rdZero 0x13#8).WellFormed ∧ (Instr.wrIgnored 0xFF#8 7#32).WellFormed ∧
    (Instr.wrCmdReserved 0x07#8).WellFormed ∧ (Instr.wrKp1 7#32).WellFormed := by decide

/-- Two different inputs for each of the four clauses. -/
theorem witness_IgnoredBitsSelectNothing :
    (∃ p q : Input, p ≠ q ∧ p.busReq = false ∧ q.busReq = false) ∧
    (∃ p q : Input, p ≠ q ∧ p.busReq = true ∧ q.busReq = true ∧ p.busWe = false ∧ q.busWe = false ∧
      p.busAddr = q.busAddr) ∧
    (∃ p q : Input, p ≠ q ∧ p.busReq = true ∧ q.busReq = true ∧ p.busWe = true ∧ q.busWe = true ∧
      p.busAddr = 0x40#8 ∧ q.busAddr = 0x40#8 ∧ p.busWdata.setWidth 8 = q.busWdata.setWidth 8) ∧
    (∃ p q : Input, p ≠ q ∧ p.rst = true ∧ q.rst = true ∧ p.encA0 = q.encA0 ∧ p.encB0 = q.encB0 ∧
      p.encA1 = q.encA1 ∧ p.encB1 = q.encB1) :=
  ⟨⟨Input.ofWord 0x000FF00000001#51, Input.ofWord 0#51, by decide⟩,
    ⟨Input.ofWord 0x0020E00000001#51, Input.ofWord 0x0020E00000000#51, by decide⟩,
    ⟨Input.ofWord 0x00340FFFFFF03#51, Input.ofWord 0x0034000000003#51, by decide⟩,
    ⟨Input.ofWord 0x7430E00020000#51, Input.ofWord 0x7400000000000#51, by decide⟩⟩

/-- A cycle with all ticks and a write, and a reset cycle. -/
theorem witness_StepRunsTheCyclesOperations :
    (∃ (s : State) (p : Input) (t : State), p = Input.ofWord s.nextWord ∧ p.rst = false ∧
      runOperations
        ([decodeTransition .left (transitionCode s.left.aQ s.left.bQ p.encA0 p.encB0),
          decodeTransition .right (transitionCode s.right.aQ s.right.bQ p.encA1 p.encB1), decodeBus p]
          ++ (if p.stick0 then [.stick0] else []) ++ (if p.stick1 then [.stick1] else [])
          ++ (if p.ctick0 then [.ctick0] else []) ++ (if p.ctick1 then [.ctick1] else [])) s.taken = .next t) ∧
    (∃ (s : State) (p : Input), p = Input.ofWord s.nextWord ∧ p.rst = true) ∧
    (∃ (s : State) (i : InputWord) (rest : List InputWord), s.env.inputs = i :: rest) :=
  ⟨⟨fed marked 0x17F0E00020000#51, _, _, rfl, rfl, rfl⟩, ⟨fed marked 0x7430E00020000#51, _, rfl, rfl⟩,
    ⟨fed marked 0x7430E00020000#51, _, _, rfl⟩⟩

/-- `WR KP[0]` with the left pins held high, a transition of each wheel. -/
theorem witness_StepRunsALoneOperation :
    (∃ (i : Instr) (s : State) (j : InputWord), i.WellFormed ∧ (∀ a0 b0 a1 b1, i ≠ .reset a0 b0 a1 b1) ∧
      encode i = .input j ∧ Input.ofWord s.nextWord = { Input.ofWord j with
        encA0 := s.left.aQ, encB0 := s.left.bQ, encA1 := s.right.aQ, encB1 := s.right.bQ }) ∧
    (∃ (i : Instr) (s : State) (c : BitVec 4), encode i = .qt .left c ∧ s.left.aQ = c.getLsbD 3 ∧
      s.left.bQ = c.getLsbD 2 ∧ Input.ofWord s.nextWord = { Input.idle with
        encA0 := c.getLsbD 1, encB0 := c.getLsbD 0, encA1 := s.right.aQ, encB1 := s.right.bQ }) ∧
    (∃ (i : Instr) (s : State) (c : BitVec 4), encode i = .qt .right c ∧ s.right.aQ = c.getLsbD 3 ∧
      s.right.bQ = c.getLsbD 2 ∧ Input.ofWord s.nextWord = { Input.idle with
        encA0 := s.left.aQ, encB0 := s.left.bQ, encA1 := c.getLsbD 1, encB1 := c.getLsbD 0 }) :=
  ⟨⟨.wrKp0 0x00020000#32, fed (withLeft { ch with aQ := true, bQ := true }) 0x0C30E00020000#51, 0x0030E00020000#51,
      rfl, (by intros; simp), by decide, by decide⟩,
    ⟨.qbF1 .left, fed (withLeft { ch with aQ := true, bQ := true }) 0x0400000000000#51, 0b1110#4, by decide⟩,
    ⟨.qdbl0011 .right, fed State.reset 0x3000000000000#51, 0b0011#4, by decide⟩⟩

/-- With both control ticks, with none, and in a reset cycle. -/
theorem witness_StrobeOutputShowsControlTick :
    (∃ s t : State, ∃ p : Input, step s = .next t ∧ p = Input.ofWord s.nextWord ∧ p.rst = false ∧ p.ctick0 = true ∧
      p.ctick1 = true) ∧
    (∃ s t : State, ∃ p : Input, step s = .next t ∧ p = Input.ofWord s.nextWord ∧ p.rst = true ∧ p.ctick0 = true) :=
  ⟨⟨fed marked 0x0300000000000#51, _, _, rfl, rfl, rfl, rfl, rfl⟩,
    ⟨fed marked 0x4300000000000#51, _, _, rfl, rfl, rfl, rfl⟩⟩

/-- Each index the statement names, with an edge or a tick in the same cycle. -/
theorem witness_ReadSeesTheStateAfterPhaseOne :
    ∀ a ∈ [0x00#8, 0x20#8, 0x04#8, 0x24#8, 0x11#8, 0x31#8, 0xFF#8], ∃ s t : State, ∃ p : Input, step s = .next t ∧
      p = Input.ofWord s.nextWord ∧ p.rst = false ∧ p.busReq = true ∧ p.busWe = false ∧ p.busAddr = a := by
  intro a h
  simp only [List.mem_cons, List.not_mem_nil, or_false] at h
  rcases h with rfl | rfl | rfl | rfl | rfl | rfl | rfl
  · exact ⟨fed marked 0x05A0000000000#51, _, _, rfl, rfl, by decide⟩
  · exact ⟨fed marked 0x05A2000000000#51, _, _, rfl, rfl, by decide⟩
  · exact ⟨fed marked 0x05A0400000000#51, _, _, rfl, rfl, by decide⟩
  · exact ⟨fed marked 0x05A2400000000#51, _, _, rfl, rfl, by decide⟩
  · exact ⟨fed marked 0x05A1100000000#51, _, _, rfl, rfl, by decide⟩
  · exact ⟨fed marked 0x05A3100000000#51, _, _, rfl, rfl, by decide⟩
  · exact ⟨fed marked 0x05AFF00000000#51, _, _, rfl, rfl, by decide⟩

theorem witness_WithoutAReadTheDataIsZero :
    (∃ s t : State, ∃ p : Input, step s = .next t ∧ p = Input.ofWord s.nextWord ∧ p.rst = true ∧ p.busReq = true) ∧
    (∃ s t : State, ∃ p : Input, step s = .next t ∧ p = Input.ofWord s.nextWord ∧ p.rst = false ∧ p.busReq = false) ∧
    (∃ s t : State, ∃ p : Input, step s = .next t ∧ p = Input.ofWord s.nextWord ∧ p.rst = false ∧ p.busReq = true ∧
      p.busWe = true) :=
  ⟨⟨fed marked 0x4020E00000000#51, _, _, rfl, rfl, rfl, rfl⟩, ⟨fed marked 0x000FF00000000#51, _, _, rfl, rfl, rfl, rfl⟩,
    ⟨fed marked 0x0034000000007#51, _, _, rfl, rfl, rfl, rfl, rfl⟩⟩

/-- Each of the four level pairs, on each wheel. -/
theorem witness_NoEdgeChangesNothing :
    ∀ a b : Bool, ((State.reset.resetTo a b a b).wheel .left).aQ = a ∧ ((State.reset.resetTo a b a b).wheel .left).bQ = b ∧
      ((State.reset.resetTo a b a b).wheel .right).aQ = a ∧ ((State.reset.resetTo a b a b).wheel .right).bQ = b := by
  decide

theorem witness_ForwardAndReverseCycles :
    (marked.wheel .left).aQ = false ∧ (marked.wheel .left).bQ = false ∧ (marked.wheel .right).aQ = false ∧
    (marked.wheel .right).bQ = false := by decide

/-- The path of V14, one channel at a time. -/
theorem witness_DecoderIsReversible :
    OneChannelAtATime ((marked.wheel .left).aQ, (marked.wheel .left).bQ)
      [(true, false), (true, true), (false, true), (false, false), (false, true)] := by
  simp [OneChannelAtATime, marked, numbered, ch, Channel.reset, State.wheel]

/-- The least and the greatest `n`, and 0 with zero constants, on both wheels. -/
theorem witness_CountWrapDoesNotDisturbTheVelocity :
    ∀ n ∈ [(-2 ^ 31 : Int), 2 ^ 31 - 1, 0], -2 ^ 31 ≤ n ∧ n < 2 ^ 31 ∧
      (∃ s t : State, s.left.count = s.left.prevCount + toReg n ∧ s.left.kAng = 0 ∧ s.left.radius = 0 ∧
        exec .stick0 s = .next t) ∧
      (∃ s t : State, s.right.count = s.right.prevCount + toReg n ∧ s.right.kAng = 0 ∧ s.right.radius = 0 ∧
        exec .stick1 s = .next t) ∧
      (∃ s t : State, s.left.count = s.left.prevCount + toReg n ∧ s.left.kAng = 0x003A5232 ∧
        exec .stick0 s = .next t) := by
  intro n h
  refine ⟨?_, ?_, ⟨withLeft { ch with prevCount := 5, count := 5 + toReg n }, _, rfl, rfl, rfl, rfl⟩,
    ⟨withRight { ch with prevCount := 5, count := 5 + toReg n }, _, rfl, rfl, rfl, rfl⟩,
    ⟨withLeft { sampler (5 + toReg n) 5 with mode := true }, _, rfl, rfl, rfl⟩⟩ <;>
    (revert n; decide)

/-- At the last regulating tick of the window, with the sum of V20. -/
theorem witness_MotorMagnitudeIsTheDutys :
    (∃ (s : State) (e i d acc : Int), e = sat32 (s32 s.left.setpoint - s32 s.left.linVel) ∧
      i = sat32 (s32 s.left.integral + e) ∧ d = sat32 (e - s32 s.left.prevErr) ∧
      acc = s32 s.left.kp * e + s32 s.left.ki * i + s32 s.left.kd * d ∧ s.left.setpoint ≠ 0 ∧
      u32 s.left.ticks ≤ u32 s.left.fC ∧ u32 s.left.ticks = 50) ∧
    (∃ (s : State) (e i d acc : Int), e = sat32 (s32 s.right.setpoint - s32 s.right.linVel) ∧
      i = sat32 (s32 s.right.integral + e) ∧ d = sat32 (e - s32 s.right.prevErr) ∧
      acc = s32 s.right.kp * e + s32 s.right.ki * i + s32 s.right.kd * d ∧ s.right.setpoint ≠ 0 ∧
      u32 s.right.ticks ≤ u32 s.right.fC ∧ u32 s.right.ticks = 50) :=
  ⟨⟨withLeft { ch with setpoint := 19661, linVel := 10451, ticks := 50 }, 9210, 9210, 9210, 1448604060, by decide⟩,
    ⟨withRight { ch with setpoint := 19661, linVel := 10451, ticks := 50 }, 9210, 9210, 9210, 1448604060, by decide⟩⟩

/-- `F_C` at 50, at the greatest value below the maximum, and at the maximum, on both wheels. -/
theorem witness_StallTimeline :
    (∃ s : State, s.left.setpoint ≠ 0 ∧ s.left.ticks = 0 ∧ u32 s.left.fC = 50 ∧ u32 s.left.fC < 2 ^ 32 - 1) ∧
    (∃ s : State, s.left.setpoint ≠ 0 ∧ s.left.ticks = 0 ∧ u32 s.left.fC + 1 = 2 ^ 32 - 1) ∧
    (∃ s : State, s.left.setpoint ≠ 0 ∧ s.left.ticks = 0 ∧ u32 s.left.fC = 2 ^ 32 - 1) ∧
    (∃ s : State, s.right.setpoint ≠ 0 ∧ s.right.ticks = 0 ∧ u32 s.right.fC = 50 ∧ u32 s.right.fC < 2 ^ 32 - 1) ∧
    (∃ s : State, s.right.setpoint ≠ 0 ∧ s.right.ticks = 0 ∧ u32 s.right.fC + 1 = 2 ^ 32 - 1) ∧
    (∃ s : State, s.right.setpoint ≠ 0 ∧ s.right.ticks = 0 ∧ u32 s.right.fC = 2 ^ 32 - 1) :=
  ⟨⟨withLeft { ch with setpoint := 1 }, by decide⟩, ⟨withLeft { ch with setpoint := 1, fC := 0xFFFFFFFE }, by decide⟩,
    ⟨withLeft { ch with setpoint := 1, fC := 0xFFFFFFFF }, by decide⟩, ⟨withRight { ch with setpoint := 1 }, by decide⟩,
    ⟨withRight { ch with setpoint := 1, fC := 0xFFFFFFFE }, by decide⟩,
    ⟨withRight { ch with setpoint := 1, fC := 0xFFFFFFFF }, by decide⟩⟩

/-- At the bound: a tick, a write that keeps `F_C`, one that raises it, and one that lowers it by one below the counter. -/
theorem witness_StallCounterStaysWithinTheWindow :
    (∃ (i : Instr) (s t : State), (∀ v, i = .wrFC0 v → u32 s.left.fC ≤ u32 v) ∧
      (∀ v, i = .wrFC1 v → u32 s.right.fC ≤ u32 v) ∧ u32 s.left.ticks ≤ u32 s.left.fC + 1 ∧
      u32 s.right.ticks ≤ u32 s.right.fC + 1 ∧ u32 s.left.ticks = u32 s.left.fC ∧ exec i s = .next t ∧ i = .ctick0) ∧
    (∀ w ∈ [50#32, 0xFFFFFFFF#32], ∃ s t : State, (∀ v, Instr.wrFC0 w = .wrFC0 v → u32 s.left.fC ≤ u32 v) ∧
      (∀ v, Instr.wrFC0 w = .wrFC1 v → u32 s.right.fC ≤ u32 v) ∧ u32 s.left.ticks = u32 s.left.fC + 1 ∧
      u32 s.right.ticks ≤ u32 s.right.fC + 1 ∧ exec (.wrFC0 w) s = .next t) ∧
    (∃ (s : State) (v : Word), u32 v < u32 s.left.ticks ∧ u32 v + 1 = u32 s.left.ticks ∧ s.left.setpoint ≠ 0) ∧
    (∃ (s : State) (v : Word), u32 v < u32 s.right.ticks ∧ u32 v + 1 = u32 s.right.ticks ∧ s.right.setpoint ≠ 0) := by
  refine ⟨⟨.ctick0, withLeft { ch with setpoint := 5, ticks := 50 }, _, (by simp), (by simp), by decide, by decide, by decide,
    rfl, rfl⟩, ?_,
    ⟨withLeft { ch with setpoint := 5, ticks := 20 }, 19, by decide⟩,
    ⟨withRight { ch with setpoint := 5, ticks := 20 }, 19, by decide⟩⟩
  intro w h
  simp only [List.mem_cons, List.not_mem_nil, or_false] at h
  rcases h with rfl | rfl <;>
    refine ⟨withLeft { ch with setpoint := 5, ticks := 51 }, _, ?_, (by simp), by decide, by decide, rfl⟩ <;>
    (intro v hv; cases hv; decide)

/-- The first tick past the window, with a setpoint of the other sign. -/
theorem witness_TimedOutWheelNeedsANewSetpoint :
    (∃ (s : State) (v : Word), s.left.setpoint ≠ 0 ∧ u32 s.left.ticks > u32 s.left.fC ∧ v ≠ 0 ∧ v ≠ s.left.setpoint) ∧
    (∃ (s : State) (v : Word), s.right.setpoint ≠ 0 ∧ u32 s.right.ticks > u32 s.right.fC ∧ v ≠ 0 ∧
      v ≠ s.right.setpoint) :=
  ⟨⟨withLeft { ch with setpoint := 19661, ticks := 51 }, 0xFFFFB333#32, by decide⟩,
    ⟨withRight { ch with setpoint := 19661, ticks := 51 }, 0xFFFFB333#32, by decide⟩⟩

/-- V35 with a sample tick, a write of 0 to a held setpoint, and `KIN_SET` with a setpoint that is not 0 and one that is, on
each wheel. -/
theorem witness_WriteAndSampleComeBeforeTheControlTick :
    (∃ s t : State, ∃ p : Input, step s = .next t ∧ p = Input.ofWord s.nextWord ∧ p.rst = false ∧ p.ctick0 = true ∧
      p.busReq = true ∧ p.busWe = true ∧ p.busAddr = 0x07#8 ∧ p.busWdata ≠ 0 ∧
      p.busWdata ≠ s.left.setpoint ∧ t.left.mode = true) ∧
    (∃ s t : State, ∃ p : Input, step s = .next t ∧ p = Input.ofWord s.nextWord ∧ p.rst = false ∧ p.ctick0 = true ∧
      p.busReq = true ∧ p.busWe = true ∧ p.busAddr = 0x07#8 ∧ p.busWdata = 0 ∧
      s.left.setpoint ≠ 0) ∧
    (∃ s t : State, ∃ p : Input, step s = .next t ∧ p = Input.ofWord s.nextWord ∧ p.rst = false ∧ p.ctick0 = true ∧
      p.busReq = true ∧ p.busWe = true ∧ p.busAddr = 0x40#8 ∧ p.busWdata.setWidth 8 = 0x01#8 ∧
      toReg (sat32 (s32 s.cmdLin - sat32 (shr (s32 s.cmdAng * s32 s.track) 17))) ≠ 0 ∧
      toReg (sat32 (s32 s.cmdLin - sat32 (shr (s32 s.cmdAng * s32 s.track) 17))) ≠ s.left.setpoint ∧ t.left.mode = true) ∧
    (∃ s t : State, ∃ p : Input, step s = .next t ∧ p = Input.ofWord s.nextWord ∧ p.rst = false ∧ p.ctick0 = true ∧
      p.busReq = true ∧ p.busWe = true ∧ p.busAddr = 0x40#8 ∧ p.busWdata.setWidth 8 = 0x01#8 ∧
      toReg (sat32 (s32 s.cmdLin - sat32 (shr (s32 s.cmdAng * s32 s.track) 17))) = 0 ∧ s.left.setpoint ≠ 0) ∧
    (∃ s t : State, ∃ p : Input, step s = .next t ∧ p = Input.ofWord s.nextWord ∧ p.rst = false ∧ p.ctick1 = true ∧
      p.busReq = true ∧ p.busWe = true ∧ p.busAddr = 0x27#8 ∧ p.busWdata ≠ 0 ∧
      p.busWdata ≠ s.right.setpoint ∧ t.right.mode = true) ∧
    (∃ s t : State, ∃ p : Input, step s = .next t ∧ p = Input.ofWord s.nextWord ∧ p.rst = false ∧ p.ctick1 = true ∧
      p.busReq = true ∧ p.busWe = true ∧ p.busAddr = 0x27#8 ∧ p.busWdata = 0 ∧
      s.right.setpoint ≠ 0) ∧
    (∃ s t : State, ∃ p : Input, step s = .next t ∧ p = Input.ofWord s.nextWord ∧ p.rst = false ∧ p.ctick1 = true ∧
      p.busReq = true ∧ p.busWe = true ∧ p.busAddr = 0x40#8 ∧ p.busWdata.setWidth 8 = 0x01#8 ∧
      toReg (sat32 (s32 s.cmdLin + sat32 (shr (s32 s.cmdAng * s32 s.track) 17))) ≠ 0 ∧
      toReg (sat32 (s32 s.cmdLin + sat32 (shr (s32 s.cmdAng * s32 s.track) 17))) ≠ s.right.setpoint ∧ t.right.mode = true) ∧
    (∃ s t : State, ∃ p : Input, step s = .next t ∧ p = Input.ofWord s.nextWord ∧ p.rst = false ∧ p.ctick1 = true ∧
      p.busReq = true ∧ p.busWe = true ∧ p.busAddr = 0x40#8 ∧ p.busWdata.setWidth 8 = 0x01#8 ∧
      toReg (sat32 (s32 s.cmdLin + sat32 (shr (s32 s.cmdAng * s32 s.track) 17))) = 0 ∧ s.right.setpoint ≠ 0) :=
  ⟨⟨fed State.reset 0x0170700000064#51, _, _, rfl, rfl, by decide⟩,
    ⟨fed (withLeft settled) 0x0170700000000#51, _, _, rfl, rfl, by decide⟩,
    ⟨fed { withLeft settled with cmdLin := 6397, cmdAng := 104858, track := 7995 } 0x0174000000001#51, _, _, rfl, rfl, by decide⟩,
    ⟨fed { withLeft settled with cmdLin := 6396, cmdAng := 104858, track := 7995 } 0x0174000000001#51, _, _, rfl, rfl, by decide⟩,
    ⟨fed State.reset 0x02B2700000064#51, _, _, rfl, rfl, by decide⟩,
    ⟨fed (withRight settled) 0x02B2700000000#51, _, _, rfl, rfl, by decide⟩,
    ⟨fed { withLeft settled with cmdLin := 6397, cmdAng := 104858, track := 7995 } 0x02B4000000001#51, _, _, rfl, rfl, by decide⟩,
    ⟨fed { withRight settled with cmdLin := toReg (-6396), cmdAng := 104858, track := 7995 } 0x02B4000000001#51, _, _, rfl, rfl, by decide⟩⟩

/-- From the lowest duty, with the last tick of the window among the `n`; and `n = 0` past it. -/
theorem witness_DutyAccumulatesTheIncrement :
    (∃ (s : State) (n : Nat) (e : Int), 2 ≤ n ∧ s.left.setpoint ≠ 0 ∧ u32 s.left.ticks + n = u32 s.left.fC + 1 ∧
      s.left.ki = 0 ∧ -65536 ≤ s32 s.left.duty ∧ s32 s.left.duty ≤ 65536 ∧
      e = sat32 (s32 s.left.setpoint - s32 s.left.linVel) ∧ s32 s.left.prevErr = e) ∧
    (∃ (s : State) (n : Nat) (e : Int), 2 ≤ n ∧ s.right.setpoint ≠ 0 ∧ u32 s.right.ticks + n = u32 s.right.fC + 1 ∧
      s.right.ki = 0 ∧ -65536 ≤ s32 s.right.duty ∧ s32 s.right.duty ≤ 65536 ∧
      e = sat32 (s32 s.right.setpoint - s32 s.right.linVel) ∧ s32 s.right.prevErr = e) ∧
    (∃ (s : State) (e : Int), s.left.setpoint ≠ 0 ∧ u32 s.left.ticks + 0 ≤ u32 s.left.fC + 1 ∧
      u32 s.left.ticks > u32 s.left.fC ∧ s.left.ki = 0 ∧ e = sat32 (s32 s.left.setpoint - s32 s.left.linVel) ∧
      s32 s.left.prevErr = e) :=
  ⟨⟨withLeft { ch with setpoint := 9310, linVel := 100, prevErr := 9210, ticks := 41, duty := toReg (-65536) }, 10, 9210,
      by decide⟩,
    ⟨withRight { ch with setpoint := 9310, linVel := 100, prevErr := 9210, ticks := 41, duty := 65536 }, 10, 9210,
      by decide⟩,
    ⟨withLeft { ch with setpoint := 9210, prevErr := 9210, ticks := 51 }, 9210, by decide⟩⟩

/-- V36, and the two ends at which `h` saturates. -/
theorem witness_KinSetWritesBothSetpoints :
    ∀ h ∈ [(6396 : Int), 2 ^ 31 - 1, -2 ^ 31], ∃ (s : State) (vl vr : Word),
      h = sat32 (shr (s32 s.cmdAng * s32 s.track) 17) ∧ vl = toReg (sat32 (s32 s.cmdLin - h)) ∧
      vr = toReg (sat32 (s32 s.cmdLin + h)) := by
  intro h m
  simp only [List.mem_cons, List.not_mem_nil, or_false] at m
  rcases m with rfl | rfl | rfl
  · exact ⟨{ State.reset with cmdLin := 19661, cmdAng := 104858, track := 7995 }, 13265, 26057, by decide⟩
  · exact ⟨{ State.reset with cmdAng := 0x02000000, track := 0x01000000 }, 0x80000001, 0x7FFFFFFF, by decide⟩
  · exact ⟨{ State.reset with cmdAng := 0xFE000000, track := 0x01000000 }, 0x7FFFFFFF, 0x80000000, by decide⟩

/-- The greatest and the least `h` in the range, and V36's. -/
theorem witness_KinSetWordingsAgreeInRange :
    ∀ h ∈ [(2 ^ 31 - 1 : Int), -2 ^ 31, 6396], ∃ s : State, h = shr (s32 s.cmdAng * s32 s.track) 17 ∧ -2 ^ 31 ≤ h ∧
      h ≤ 2 ^ 31 - 1 := by
  intro h m
  simp only [List.mem_cons, List.not_mem_nil, or_false] at m
  rcases m with rfl | rfl | rfl
  · exact ⟨{ State.reset with cmdAng := 0x7FFFFFFF, track := 131072 }, by decide⟩
  · exact ⟨{ State.reset with cmdAng := 0x80000000, track := 131072 }, by decide⟩
  · exact ⟨{ State.reset with cmdAng := 104858, track := 7995 }, by decide⟩

theorem witness_KinGetLatchesTheBodyVelocity :
    ∃ (s : State) (num : Int), num = (s32 s.right.linVel - s32 s.left.linVel) * 65536 ∧ num < 0 ∧ s.track ≠ 0 :=
  ⟨{ withLeft { ch with linVel := 768 } with track := 7995 }, -50331648, by decide⟩

/-- The velocities already at the setpoints `KIN_SET` writes, V36 and V40. -/
theorem witness_KinematicsRoundTrip :
    ∃ (s t : State) (h : Int), h = shr (s32 s.cmdAng * s32 s.track) 17 ∧ 0 < s32 s.track ∧
      -2 ^ 31 ≤ s32 s.cmdLin - h ∧ s32 s.cmdLin - h ≤ 2 ^ 31 - 1 ∧
      -2 ^ 31 ≤ s32 s.cmdLin + h ∧ s32 s.cmdLin + h ≤ 2 ^ 31 - 1 ∧
      exec .kinSet s = .next t ∧ s.left.linVel = t.left.setpoint ∧ s.right.linVel = t.right.setpoint :=
  ⟨{ State.reset with
      left := { ch with linVel := 13265 }, right := { ch with linVel := 26057 }, cmdLin := 19661, cmdAng := 104858,
      track := 7995 }, _, 6396, by decide, by decide, by decide, by decide, by decide, by decide, rfl, by decide,
    by decide⟩

theorem witness_ZeroBodyCommandIdlesBothWheels :
    ∃ s : State, s.cmdLin = 0 ∧ s.cmdAng = 0 ∧ s.left.setpoint ≠ 0 ∧ s.right.setpoint ≠ 0 :=
  ⟨{ marked with cmdLin := 0, cmdAng := 0 }, by decide⟩

theorem witness_ReadsOfGlobalRegistersAndUnmappedIndices :
    ∀ n ∈ [0x13, 0x1F, 0x33, 0x3F, 0x40, 0x47, 0xFF], readsZero (BitVec.ofNat 8 n) = true := by decide

theorem witness_ReadByIndexIsBusRead :
    ∃ (a : RegIndex) (p : Input), p.busReq = true ∧ p.busWe = false ∧ p.busAddr = a :=
  ⟨0xFF#8, Input.ofWord 0x002FF00000000#51, by decide⟩

theorem witness_WriteByIndexIsBusWrite :
    ∃ (a : RegIndex) (v : Word) (p : Input), p.busReq = true ∧ p.busWe = true ∧ p.busAddr = a ∧ p.busWdata = v :=
  ⟨0x40#8, 0xFFFFFF04#32, Input.ofWord 0x00340FFFFFF04#51, by decide⟩

theorem witness_PlainStoreFrameOverTheRegisterSpace :
    ∃ a b : RegIndex, a.toNat ∈ [0x05, 0x06, 0x0D, 0x0E, 0x0F, 0x10, 0x25, 0x26, 0x2D, 0x2E, 0x2F, 0x30, 0x41, 0x42, 0x43] ∧
      b ≠ a :=
  ⟨0x43#8, 0x42#8, by decide⟩

theorem witness_IgnoredWritesAndReservedCommands :
    (∀ n ∈ [0x00, 0x04, 0x08, 0x0C, 0x11, 0x24, 0x28, 0x2C, 0x31, 0x3F, 0x44, 0xFF],
      writeIgnored (BitVec.ofNat 8 n) = true) ∧
    (∀ c ∈ [0x07#8, 0xFF#8], 0x07 ≤ c.toNat) := by decide

theorem witness_WritesAreIdempotent : ∃ a : RegIndex, a ≠ 0x40#8 ∧ a = 0x07#8 := ⟨0x07#8, by decide⟩

/-- Two states that differ in what no index shows. -/
theorem witness_EveryBitOfStateIsReadable :
    ∃ s t : State, s ≠ t ∧ ∀ a, busRead s a = busRead t a :=
  ⟨marked, { marked with busRdata := 1 }, by decide, fun _ => rfl⟩

/-- Two states that differ in `EN`, and one step of each: a run, a read of the index below `GSTAT`, a write at `GSTAT`'s
index, and a reset cycle that asks to read it. -/
theorem witness_EnableGatesNothingInside :
    (∃ (n : Nat) (s t s1 t1 : State), s ≠ t ∧ SameButEnable s t ∧ Host.Core.run Sys2Proof.core n s = .next s1 ∧
      Host.Core.run Sys2Proof.core n t = .next t1) ∧
    (∀ i ∈ [0x0024500000000#51, 0x0034600000000#51, 0x4024600000000#51], ∃ (s t s1 t1 : State) (p : Input), s ≠ t ∧
      s.nextWord = i ∧ SameButEnable s t ∧ step s = .next s1 ∧ step t = .next t1 ∧ p = Input.ofWord s.nextWord ∧
      ¬ (p.rst = false ∧ p.busReq = true ∧ p.busWe = false ∧ p.busAddr = 0x46#8)) := by
  refine ⟨⟨1, fed marked 0x0020000000000#51, fed { marked with en := true } 0x0020000000000#51, _, _, by decide, rfl, rfl,
    rfl⟩, ?_⟩
  intro i m
  simp only [List.mem_cons, List.not_mem_nil, or_false] at m
  rcases m with rfl | rfl | rfl
  · exact ⟨fed marked 0x0024500000000#51, fed { marked with en := true } 0x0024500000000#51, _, _, _, by decide, rfl, rfl, rfl,
      rfl, rfl, by decide⟩
  · exact ⟨fed marked 0x0034600000000#51, fed { marked with en := true } 0x0034600000000#51, _, _, _, by decide, rfl, rfl, rfl,
      rfl, rfl, by decide⟩
  · exact ⟨fed marked 0x4024600000000#51, fed { marked with en := true } 0x4024600000000#51, _, _, _, by decide, rfl, rfl, rfl,
      rfl, rfl, by decide⟩

theorem witness_ResetLeavesTheResetState :
    ∃ (s : State) (ch : Bool → Bool → Channel) (p : Input), (∀ a b, ch a b =
      { aQ := a, bQ := b, count := 0, prevCount := 0, angVel := 0, linVel := 0, kAng := 0, radius := 0,
        setpoint := 0, error := 0, prevErr := 0, integral := 0, duty := 0, ticks := 0, fC := 50, kp := 78643,
        ki := 0, kd := 78643, mode := false, motCmd := 0, motMag := 0, motStb := false }) ∧
      p = Input.ofWord s.nextWord ∧ p.rst = true :=
  ⟨fed marked 0x7430E00020000#51, Channel.reset, _, fun _ _ => rfl, rfl, rfl⟩

theorem witness_ResetStateIsLegal :
    ∃ s t : State, exec (.reset true false true true) s = .next t := ⟨marked, _, rfl⟩

/-- A regulating wheel at full duty backward, ticked. -/
theorem witness_EveryOperationKeepsTheInvariants :
    ∃ (s t : State), s.Legal ∧ s.left.mode = true ∧ exec .ctick0 s = .next t :=
  ⟨withLeft { ch with setpoint := 5, duty := toReg (-65536), mode := true, motCmd := 2, motMag := 65536 }, _, by decide,
    rfl, rfl⟩

theorem witness_StepKeepsTheInvariants :
    ∃ (s t : State), s.Legal ∧ s.left.mode = true ∧ step s = .next t :=
  ⟨fed (withLeft { ch with setpoint := 5, duty := toReg (-65536), mode := true, motCmd := 2, motMag := 65536 })
      0x0100000000000#51, _, by decide, rfl, rfl⟩

/-- A state other than the reset state, reached by an operation; one with a strobe set, by the strobe bookkeeping. -/
theorem witness_ReachableStatesAreLegal :
    (∃ s : State, Reachable s ∧ s.left.aQ = true) ∧ (∃ s : State, EventReachable s ∧ s.en = true) ∧
      (∃ s : State, EventReachable s ∧ s.left.motStb = true) :=
  ⟨⟨_, .afterReset State.reset true false true true, rfl⟩,
    ⟨_, .afterEvent (.operation .enable) (State.reset.resetTo false false false false) _
      (.afterReset State.reset false false false false) rfl, rfl⟩,
    ⟨_, .afterEvent (.strobes true false) (State.reset.resetTo false false false false) _
      (.afterReset State.reset false false false false) rfl, rfl⟩⟩

/-- A run with a control tick of the left wheel, which sets its strobe, and a reset cycle that clears one. -/
theorem witness_EventLevelAdmitsEveryCycleLevelRun :
    (∃ (s t : State) (p : Input), p = Input.ofWord s.nextWord ∧ p.rst = false ∧ step s = .next t ∧
      Host.Core.run Sys2Proof.core 1 s = .next t ∧ Reachable t ∧ t.left.motStb = true) ∧
    (∃ (s t : State) (p : Input), p = Input.ofWord s.nextWord ∧ p.rst = true ∧ step s = .next t ∧
      s.left.motStb = true) :=
  ⟨⟨(fed marked 0x0100000000000#51).resetTo false false false false, _, _, rfl, rfl, rfl, rfl,
      .afterStep _ _ (.afterReset (fed marked 0x0100000000000#51) false false false false) rfl, rfl⟩,
    ⟨fed (withLeft { ch with motStb := true }) 0x7430E00020000#51, _, _, rfl, rfl, rfl, rfl⟩⟩

/-- Two states whose right wheels, right pins and right ticks differ. -/
theorem witness_WheelsAreIndependent :
    ∃ (n : Nat) (s t s1 t1 : State), s.right ≠ t.right ∧ s.env.inputs ≠ t.env.inputs ∧ SameFor .left s t ∧
      Host.Core.run Sys2Proof.core n s = .next s1 ∧ Host.Core.run Sys2Proof.core n t = .next t1 :=
  ⟨1, fed State.reset 0x0470700000064#51, fed (withRight settled) 0x3670700000064#51, _, _, by decide, by decide,
    by unfold SameFor; decide, rfl, rfl⟩

/-- An operation that meets every clause's premise. -/
theorem witness_WritersOfLeftWheelRegisters :
    ∃ (i : Instr) (s t : State), exec i s = .next t ∧ (∀ a0 b0 a1 b1, i ≠ .reset a0 b0 a1 b1) ∧
      (∀ c, encode i ≠ .qt .left c) ∧ i ≠ .qrst0 ∧ i ≠ .stick0 ∧ i ≠ .ctick0 ∧ (∀ v, i ≠ .wrSetpoint0 v) ∧
      i ≠ .kinSet ∧ (∀ v, i ≠ .wrKAng0 v) ∧ (∀ v, i ≠ .wrRadius0 v) ∧ (∀ v, i ≠ .wrFC0 v) ∧ (∀ v, i ≠ .wrKp0 v) ∧
      (∀ v, i ≠ .wrKi0 v) ∧ (∀ v, i ≠ .wrKd0 v) :=
  ⟨.kinGet, marked, _, rfl, by simp [encode]⟩

theorem witness_WritersOfRightWheelRegisters :
    ∃ (i : Instr) (s t : State), exec i s = .next t ∧ (∀ a0 b0 a1 b1, i ≠ .reset a0 b0 a1 b1) ∧
      (∀ c, encode i ≠ .qt .right c) ∧ i ≠ .qrst1 ∧ i ≠ .stick1 ∧ i ≠ .ctick1 ∧ (∀ v, i ≠ .wrSetpoint1 v) ∧
      i ≠ .kinSet ∧ (∀ v, i ≠ .wrKAng1 v) ∧ (∀ v, i ≠ .wrRadius1 v) ∧ (∀ v, i ≠ .wrFC1 v) ∧ (∀ v, i ≠ .wrKp1 v) ∧
      (∀ v, i ≠ .wrKi1 v) ∧ (∀ v, i ≠ .wrKd1 v) :=
  ⟨.ctick0, marked, _, rfl, by simp [encode]⟩

theorem witness_WritersOfGlobalRegisters :
    ∃ (i : Instr) (s t : State), exec i s = .next t ∧ (∀ a0 b0 a1 b1, i ≠ .reset a0 b0 a1 b1) ∧
      (∀ v, i ≠ .wrCmdLin v) ∧ (∀ v, i ≠ .wrCmdAng v) ∧ (∀ v, i ≠ .wrTrack v) ∧ i ≠ .kinGet ∧ i ≠ .enable ∧
      i ≠ .disable :=
  ⟨.qdbl0011 .left, marked, _, rfl, by simp⟩

/-- The intermediate values named in the hypotheses of the tick statements: V16 and V20. -/
theorem witness_StickSamplesTheVelocity :
    ∃ (s : State) (ang : Int), ang = sat32 (shr (wrap32 (s32 s.left.count - s32 s.left.prevCount) * s32 s.left.kAng) 8) ∧
      ang = 418045 :=
  ⟨withLeft (sampler 28 0), 418045, by decide⟩

theorem witness_CtickIdlesOrRegulates :
    ∃ (s : State) (e i d acc u : Int), e = sat32 (s32 s.left.setpoint - s32 s.left.linVel) ∧
      i = sat32 (s32 s.left.integral + e) ∧ d = sat32 (e - s32 s.left.prevErr) ∧
      acc = s32 s.left.kp * e + s32 s.left.ki * i + s32 s.left.kd * d ∧
      u = clamp (s32 s.left.duty + shr acc 16) (-65536) 65536 ∧ u = 22103 ∧
      ¬ (s.left.setpoint = 0 ∨ u32 s.left.ticks > u32 s.left.fC) :=
  ⟨withLeft { ch with setpoint := 19661, linVel := 10451 }, 9210, 9210, 9210, 1448604060, 22103, by decide⟩

end Sys2Proof.Tests
end

section
/-! The event-level model simulates the cycle-level one (00_scope.md R18). -/

namespace Sys2Proof.Machine

open Sys2Proof

/-! What a cycle and a step did, read off the state they answered. -/

/-- If two lists of operations, one after the other, answer a next state, both did. -/
theorem runOperations_append_inv {xs ys : List Instr} {s t : State} (h : runOperations (xs ++ ys) s = .next t) :
    ∃ m, runOperations xs s = .next m ∧ runOperations ys m = .next t := by
  induction xs generalizing s with
  | nil => exact ⟨s, rfl, h⟩
  | cons i rest ih =>
    obtain ⟨m, hm, hr⟩ := runOperations_cons_inv h
    obtain ⟨m', hrest, hys⟩ := ih hr
    exact ⟨m', by rw [runOperations_cons hm, hrest], hys⟩

/-- Taking the input word leaves the stored levels, and so the operations the cycle selects. -/
@[simp] theorem operations_taken (s : State) (p : Input) : s.taken.operations p = s.operations p := by
  simp [State.operations]

/-- If a step answers a next state, its operations ran after its word was taken (20_memory.md R70). -/
theorem step_inv {s t : State} {p : Input} (hp : p = Input.ofWord s.nextWord) (h : step s = .next t) :
    ∃ m, runOperations (s.operations p) s.taken = .next m ∧ t = if p.rst then m else m.strobes p := by
  subst hp
  rw [step_eq] at h
  simpa using cycle_inv h

/-- A reset step answers the reset state at the cycle's pin levels (70_reset_and_hazards.md R200, R201). -/
theorem step_inv_of_reset {s t : State} {p : Input} (hp : p = Input.ofWord s.nextWord) (hr : p.rst = true)
    (h : step s = .next t) : t = s.taken.resetTo p.encA0 p.encB0 p.encA1 p.encB1 := by
  obtain ⟨m, hm, ht⟩ := step_inv hp h
  rw [operations_of_reset hr] at hm
  obtain ⟨r, hreset, hnil⟩ := runOperations_cons_inv hm
  cases hreset
  cases hnil
  simpa [hr] using ht

/-- Any other step ends with the strobe bookkeeping of 20_memory.md R72. -/
theorem step_inv_of_no_reset {s t : State} {p : Input} (hp : p = Input.ofWord s.nextWord) (hr : p.rst = false)
    (h : step s = .next t) : ∃ m, runOperations (s.operations p) s.taken = .next m ∧ t = m.strobes p := by
  obtain ⟨m, hm, ht⟩ := step_inv hp h
  exact ⟨m, hm, by simpa [hr] using ht⟩

/-- If a run of one more step answers a next state, its first step and the rest of it did. -/
theorem run_succ_inv {M : Host.Core} {n : Nat} {s t : M.State} (h : M.run (n + 1) s = .next t) :
    ∃ m, M.step s = .next m ∧ M.run n m = .next t := by
  unfold Host.Core.run at h
  split at h
  · exact ⟨_, ‹_›, h⟩
  · cases h
  · cases h

/-! Runs of events. -/

/-- If the events of a list answer a next state, the first answered one and the rest ran from it. -/
theorem runEvents_cons_inv {e : Event} {rest : List Event} {s t : State} (h : runEvents (e :: rest) s = .next t) :
    ∃ m, eventStep e s = .next m ∧ runEvents rest m = .next t := by
  unfold runEvents at h
  split at h
  · exact ⟨_, ‹_›, h⟩
  · cases h
  · cases h

/-- Running two lists of events is running the one and then the other. -/
theorem runEvents_append {es : List Event} {s t : State} (h : runEvents es s = .next t) (fs : List Event) :
    runEvents (es ++ fs) s = runEvents fs t := by
  induction es generalizing s with
  | nil => cases h; rfl
  | cons e rest ih =>
    obtain ⟨m, hm, hr⟩ := runEvents_cons_inv h
    rw [List.cons_append, runEvents_cons hm]
    exact ih hr

/-- Operations run the same as the events that they are. -/
theorem runEvents_operations {xs : List Instr} {s t : State} (h : runOperations xs s = .next t) :
    runEvents (xs.map .operation) s = .next t := by
  induction xs generalizing s with
  | nil => exact h
  | cons i rest ih =>
    obtain ⟨m, hm, hr⟩ := runOperations_cons_inv h
    rw [List.map_cons, runEvents_cons (e := .operation i) hm]
    exact ih hr

/-- What events reach from an event-reachable state is event-reachable. -/
theorem EventReachable.runEvents {es : List Event} {s t : State} (hs : EventReachable s)
    (h : runEvents es s = .next t) : EventReachable t := by
  induction es generalizing s with
  | nil => cases h; exact hs
  | cons e rest ih =>
    obtain ⟨m, hm, hr⟩ := runEvents_cons_inv h
    exact ih (.afterEvent e s m hs hm) hr

/-! Simulation: a step is the run of its cycle's events. -/

/-- A step is the run of the events of its cycle (20_memory.md R70). -/
theorem runEvents_cycleEvents {s t : State} {p : Input} (hp : p = Input.ofWord s.nextWord) (h : step s = .next t) :
    runEvents (s.cycleEvents p) s = .next t := by
  obtain ⟨m, hm, rfl⟩ := step_inv hp h
  have ops : runEvents ((s.operations p).map .operation) s.taken = .next m := runEvents_operations hm
  rw [State.cycleEvents, runEvents_cons (eventStep_input s), runEvents_append ops]
  cases hr : p.rst with
  | true => simp
  | false => simp [runEvents_cons (eventStep_strobes p m)]

/-- Every run of steps is a run of events: those of its cycles, one cycle after another. -/
theorem exists_runEvents_of_run (n : Nat) {s t : State} (h : Host.Core.run Sys2Proof.core n s = .next t) :
    ∃ es, runEvents es s = .next t := by
  induction n generalizing s with
  | zero => exact ⟨[], h⟩
  | succ n ih =>
    obtain ⟨m, hstep, hrun⟩ := run_succ_inv h
    obtain ⟨es, hes⟩ := ih hrun
    exact ⟨s.cycleEvents _ ++ es, by rw [runEvents_append (runEvents_cycleEvents rfl hstep), hes]⟩

/-- Every state that steps reach, events reach. -/
theorem Reachable.eventReachable {s : State} (h : Reachable s) : EventReachable s := by
  induction h with
  | afterReset s a0 b0 a1 b1 => exact .afterReset s a0 b0 a1 b1
  | afterStep s t _ hstep ih => exact ih.runEvents (runEvents_cycleEvents rfl hstep)

/-! Strobes: what a step makes them, and a state in which no step leaves them. -/

/-- The strobes after a step without reset are the cycle's control ticks (20_memory.md R72). -/
theorem step_motStb_of_no_reset {s t : State} {p : Input} (hp : p = Input.ofWord s.nextWord) (hr : p.rst = false)
    (h : step s = .next t) : t.left.motStb = p.ctick0 ∧ t.right.motStb = p.ctick1 := by
  obtain ⟨m, -, rfl⟩ := step_inv_of_no_reset hp hr h
  exact ⟨rfl, rfl⟩

/-- The strobes after a reset step are 0 (20_memory.md R72). -/
theorem step_motStb_of_reset {s t : State} {p : Input} (hp : p = Input.ofWord s.nextWord) (hr : p.rst = true)
    (h : step s = .next t) : t.left.motStb = false ∧ t.right.motStb = false := by
  obtain rfl := step_inv_of_reset hp hr h
  exact ⟨rfl, rfl⟩

/-- A control tick leaves a wheel regulating or with the idle condition, which idling does not disturb
(42_pid.md R130, R131, R133). -/
theorem Channel.control_regulating_or_idles (c : Channel) : c.control.mode = true ∨ c.control.idles = true := by
  cases h : c.idles with
  | true => exact .inr (by rw [Channel.control_of_idles h]; exact h)
  | false => exact .inl (by simp [Channel.control_of_not_idles h])

/-- Operations that end with the control ticks of a cycle with `ctick0 = 1` leave wheel 0 regulating or with the idle
condition: the tick of wheel 1 comes after and leaves wheel 0 (20_memory.md R70). -/
theorem runOperations_left_regulating_or_idles {p : Input} {s s' m : State} (hr : p.rst = false)
    (hc : p.ctick0 = true) (h : runOperations (s.operations p) s' = .next m) :
    m.left.mode = true ∨ m.left.idles = true := by
  rw [operations_of_no_reset hr, hc] at h
  obtain ⟨u, hu, hright⟩ := runOperations_append_inv h
  obtain ⟨v, -, hleft⟩ := runOperations_append_inv hu
  obtain rfl : { v with left := v.left.control } = u := by cases hleft; rfl
  have same : m.left = v.left.control := by
    cases hc1 : p.ctick1 <;> (rw [hc1] at hright; cases hright; rfl)
  exact same ▸ v.left.control_regulating_or_idles

/-- In a run of steps wheel 0's strobe stands at 1 only right after its control tick, which leaves it regulating or with
the idle condition. -/
theorem Reachable.left_regulating_or_idles {s : State} (h : Reachable s) (stb : s.left.motStb = true) :
    s.left.mode = true ∨ s.left.idles = true := by
  cases h with
  | afterReset s a0 b0 a1 b1 => cases stb
  | afterStep s t _ hstep =>
    cases hr : (Input.ofWord s.nextWord).rst with
    | true =>
      obtain ⟨low, -⟩ := step_motStb_of_reset rfl hr hstep
      simp [low] at stb
    | false =>
      obtain ⟨m, hm, rfl⟩ := step_inv_of_no_reset rfl hr hstep
      have ticked : m.left.mode = true ∨ m.left.idles = true := runOperations_left_regulating_or_idles hr stb hm
      exact ticked

/-- Wheel 0 idle after reset with a setpoint of 1 to regulate to, and its strobe at 1 without a control tick (log 8). -/
def strobedWithoutTick : State :=
  { State.reset with left := { Channel.reset false false with setpoint := 1, motStb := true } }

/-- Events reach it: a setpoint write, then the strobe bookkeeping. -/
theorem eventReachable_strobedWithoutTick : EventReachable strobedWithoutTick :=
  (EventReachable.afterReset State.reset false false false false).runEvents
    (es := [.operation (.wrSetpoint0 1), .strobes true false]) rfl

/-- No steps reach it: a control tick would have made wheel 0 regulate. -/
theorem not_reachable_strobedWithoutTick : ¬ Reachable strobedWithoutTick := fun h =>
  absurd (h.left_regulating_or_idles rfl) (by decide)

/-- Settles O57: a step is the run of its cycle's events, which carries over to runs and to reachable states; a strobe
set without a control tick is the state that events alone reach. -/
theorem eventLevelAdmitsEveryCycleLevelRun : Obligations.EventLevelAdmitsEveryCycleLevelRun :=
  ⟨fun _ _ _ hp h => ⟨runEvents_cycleEvents hp h, fun hr => step_motStb_of_no_reset hp hr h,
      fun hr => step_motStb_of_reset hp hr h⟩,
    fun n _ _ h => exists_runEvents_of_run n h, fun _ h => h.eventReachable,
    strobedWithoutTick, eventReachable_strobedWithoutTick, not_reachable_strobedWithoutTick⟩

end Sys2Proof.Machine
end

section
/-! What an operation can do to one wheel's registers, said once (10_state.md R33). -/

namespace Sys2Proof.Machine

open Sys2Proof

/-! The operations of one wheel, named by the wheel. -/

/-- `STICK w`. -/
def stickOf : Wheel → Instr
  | .left => .stick0
  | .right => .stick1

/-- `CTICK w`. -/
def ctickOf : Wheel → Instr
  | .left => .ctick0
  | .right => .ctick1

/-- `QRSTw`. -/
def qrstOf : Wheel → Instr
  | .left => .qrst0
  | .right => .qrst1

/-- `WR SETPOINT[w], v`. -/
def wrSetpointOf : Wheel → Word → Instr
  | .left => .wrSetpoint0
  | .right => .wrSetpoint1

/-- `WR K_ANG[w], v`. -/
def wrKAngOf : Wheel → Word → Instr
  | .left => .wrKAng0
  | .right => .wrKAng1

/-- `WR RADIUS[w], v`. -/
def wrRadiusOf : Wheel → Word → Instr
  | .left => .wrRadius0
  | .right => .wrRadius1

/-- `WR F_C[w], v`. -/
def wrFCOf : Wheel → Word → Instr
  | .left => .wrFC0
  | .right => .wrFC1

/-- `WR KP[w], v`. -/
def wrKpOf : Wheel → Word → Instr
  | .left => .wrKp0
  | .right => .wrKp1

/-- `WR KI[w], v`. -/
def wrKiOf : Wheel → Word → Instr
  | .left => .wrKi0
  | .right => .wrKi1

/-- `WR KD[w], v`. -/
def wrKdOf : Wheel → Word → Instr
  | .left => .wrKd0
  | .right => .wrKd1

/-- The ways an operation `i` other than `RESET` can turn wheel `w`'s channel `c` into another, each with the operation
that it takes. -/
inductive WheelEffect (w : Wheel) (i : Instr) (c : Channel) : Channel → Prop where
  | unchanged : WheelEffect w i c c
  | transition {k : BitVec 4} (hi : encode i = .qt w k) (d : Int) (a b : Bool) : WheelEffect w i c (c.transition d a b)
  | zeroCount (hi : i = qrstOf w) : WheelEffect w i c c.zeroCount
  | sample (hi : i = stickOf w) : WheelEffect w i c c.sample
  | control (hi : i = ctickOf w) : WheelEffect w i c c.control
  | setpoint {v : Word} (hi : i = wrSetpointOf w v ∨ i = .kinSet) : WheelEffect w i c (c.setSetpoint v)
  | kAng {v : Word} (hi : i = wrKAngOf w v) : WheelEffect w i c { c with kAng := v }
  | radius {v : Word} (hi : i = wrRadiusOf w v) : WheelEffect w i c { c with radius := v }
  | fC {v : Word} (hi : i = wrFCOf w v) : WheelEffect w i c { c with fC := v }
  | kp {v : Word} (hi : i = wrKpOf w v) : WheelEffect w i c { c with kp := v }
  | ki {v : Word} (hi : i = wrKiOf w v) : WheelEffect w i c { c with ki := v }
  | kd {v : Word} (hi : i = wrKdOf w v) : WheelEffect w i c { c with kd := v }

/-- A transition of one wheel is a transition of that wheel's channel and leaves the other's. -/
theorem wheelEffect_edge {i : Instr} {w' : Wheel} {k : BitVec 4} (hi : encode i = .qt w' k) (w : Wheel) (d : Int)
    (a b : Bool) (s : State) : WheelEffect w i (s.wheel w) ((edge w' d a b s).wheel w) := by
  by_cases hw : w = w'
  · subst hw
    rw [edge_wheel]
    exact .transition hi d a b
  · rw [edge_wheel_of_ne hw]
    exact .unchanged

theorem wheelEffect_doubleEdge {i : Instr} {w' : Wheel} {k : BitVec 4} (hi : encode i = .qt w' k) (w : Wheel)
    (a b : Bool) (s : State) : WheelEffect w i (s.wheel w) ((doubleEdge w' a b s).wheel w) := by
  rw [doubleEdge, State.wheel_useDraw]
  exact wheelEffect_edge hi w _ a b s

/-- Every operation but `RESET` has one of these effects on each wheel. -/
theorem exec_wheelEffect (w : Wheel) {i : Instr} {s t : State} (h : exec i s = .next t)
    (hr : ∀ a0 b0 a1 b1, i ≠ .reset a0 b0 a1 b1) : WheelEffect w i (s.wheel w) (t.wheel w) := by
  cases i with
  | reset a0 b0 a1 b1 => exact absurd rfl (hr a0 b0 a1 b1)
  | qnop0000 w' | qnop0101 w' | qnop1010 w' | qnop1111 w' | qaR0 w' | qaR1 w' | qaF0 w' | qaF1 w' | qbR0 w' | qbR1 w'
  | qbF0 w' | qbF1 w' => cases h; exact wheelEffect_edge rfl w _ _ _ s
  | qdbl0011 w' | qdbl0110 w' | qdbl1001 w' | qdbl1100 w' => cases h; exact wheelEffect_doubleEdge rfl w _ _ s
  | stick0 => cases h; cases w with | left => exact .sample rfl | right => exact .unchanged
  | stick1 => cases h; cases w with | left => exact .unchanged | right => exact .sample rfl
  | ctick0 => cases h; cases w with | left => exact .control rfl | right => exact .unchanged
  | ctick1 => cases h; cases w with | left => exact .unchanged | right => exact .control rfl
  | qrst0 => cases h; cases w with | left => exact .zeroCount rfl | right => exact .unchanged
  | qrst1 => cases h; cases w with | left => exact .unchanged | right => exact .zeroCount rfl
  | wrSetpoint0 v => cases h; cases w with | left => exact .setpoint (.inl rfl) | right => exact .unchanged
  | wrSetpoint1 v => cases h; cases w with | left => exact .unchanged | right => exact .setpoint (.inl rfl)
  | kinSet => cases h; cases w with | left => exact .setpoint (.inr rfl) | right => exact .setpoint (.inr rfl)
  | wrKAng0 v => cases h; cases w with | left => exact .kAng rfl | right => exact .unchanged
  | wrKAng1 v => cases h; cases w with | left => exact .unchanged | right => exact .kAng rfl
  | wrRadius0 v => cases h; cases w with | left => exact .radius rfl | right => exact .unchanged
  | wrRadius1 v => cases h; cases w with | left => exact .unchanged | right => exact .radius rfl
  | wrFC0 v => cases h; cases w with | left => exact .fC rfl | right => exact .unchanged
  | wrFC1 v => cases h; cases w with | left => exact .unchanged | right => exact .fC rfl
  | wrKp0 v => cases h; cases w with | left => exact .kp rfl | right => exact .unchanged
  | wrKp1 v => cases h; cases w with | left => exact .unchanged | right => exact .kp rfl
  | wrKi0 v => cases h; cases w with | left => exact .ki rfl | right => exact .unchanged
  | wrKi1 v => cases h; cases w with | left => exact .unchanged | right => exact .ki rfl
  | wrKd0 v => cases h; cases w with | left => exact .kd rfl | right => exact .unchanged
  | wrKd1 v => cases h; cases w with | left => exact .unchanged | right => exact .kd rfl
  | _ => cases h; exact .unchanged

end Sys2Proof.Machine
end

section
/-! The invariants of 10_state.md R46: at reset, per operation, per event and per step. -/

namespace Sys2Proof.Machine

open Sys2Proof

/-! Channels. -/

/-- A channel after reset is legal, whatever the pin levels, which no invariant reads. -/
theorem Channel.reset_legal (a b : Bool) : (Channel.reset a b).Legal := by
  have low : (Channel.reset false false).Legal := by decide
  exact low

/-- Entering IDLE stops the motor and keeps the duty (42_pid.md R133). -/
theorem Channel.enterIdle_legal {c : Channel} (h : c.Legal) : c.enterIdle.Legal := by
  obtain ⟨duty, -⟩ := h
  exact ⟨duty, .inl rfl, by simp, fun _ => rfl, by simp, fun _ => rfl⟩

/-- A regulating tick clamps the duty and makes the motor show it (42_pid.md R134, R135), whatever held before. -/
theorem Channel.regulate_legal (c : Channel) : c.regulate.Legal := by
  have lo := c.pidDuty_lower
  have hi := c.pidDuty_upper
  have mag : c.regulate.motMag.toNat = c.pidDuty.natAbs := by
    rw [Channel.regulate_motMag, toNat_driven_magnitude lo hi]
  have duty : s32 c.regulate.duty = c.pidDuty := by simp
  have bound : c.pidDuty.natAbs ≤ 65536 := by omega
  simp only [Channel.Legal, mag, duty]
  by_cases forward : 0 ≤ c.pidDuty
  · simp [forward, lo, hi, bound]
  · simp [forward, lo, hi, bound]

theorem Channel.control_legal {c : Channel} (h : c.Legal) : c.control.Legal := by
  obtain ⟨-, idle⟩ | ⟨-, regulating⟩ := c.control_cases
  · exact idle ▸ Channel.enterIdle_legal h
  · exact regulating ▸ c.regulate_legal

/-- No operation but `RESET` makes a legal channel illegal: only a control tick writes what the invariants read. -/
theorem WheelEffect.legal {w : Wheel} {i : Instr} {c d : Channel} (e : WheelEffect w i c d) (h : c.Legal) :
    d.Legal := by
  cases e with
  | control => exact Channel.control_legal h
  | setpoint => simpa only [Channel.Legal, Channel.setSetpoint_duty, Channel.setSetpoint_mode,
      Channel.setSetpoint_motCmd, Channel.setSetpoint_motMag] using h
  | _ => exact h

/-! States. -/

theorem State.resetTo_legal (s : State) (a0 b0 a1 b1 : Bool) : (s.resetTo a0 b0 a1 b1).Legal :=
  ⟨Channel.reset_legal a0 b0, Channel.reset_legal a1 b1⟩

/-- The strobes are in no invariant. -/
theorem State.strobes_legal {s : State} (h : s.Legal) (p : Input) : (s.strobes p).Legal := h

/-- Taking an input word changes no register. -/
theorem State.taken_legal {s : State} (h : s.Legal) : s.taken.Legal := by
  simpa only [State.Legal, State.taken_left, State.taken_right] using h

/-- Settles O48: both states have channels as after reset. -/
theorem resetStateIsLegal : Obligations.ResetStateIsLegal := by
  refine ⟨⟨Channel.reset_legal false false, Channel.reset_legal false false⟩, ?_⟩
  intro s t a0 b0 a1 b1 h
  cases h
  exact s.resetTo_legal a0 b0 a1 b1

/-- Settles O49: `RESET` leaves a legal state, and any other operation has an effect on each wheel that keeps it legal. -/
theorem everyOperationKeepsTheInvariants : Obligations.EveryOperationKeepsTheInvariants := by
  intro i s t hs h
  by_cases hr : ∀ a0 b0 a1 b1, i ≠ .reset a0 b0 a1 b1
  · obtain ⟨left, right⟩ := hs
    exact ⟨(exec_wheelEffect .left h hr).legal left, (exec_wheelEffect .right h hr).legal right⟩
  · push Not at hr
    obtain ⟨a0, b0, a1, b1, rfl⟩ := hr
    cases h
    exact s.resetTo_legal a0 b0 a1 b1

/-- Settles O50: the invariants hold when the word is taken, every operation of the cycle keeps them, and the strobes are
in none of them. -/
theorem stepKeepsTheInvariants : Obligations.StepKeepsTheInvariants := by
  intro s t hs h
  obtain ⟨m, hm, rfl⟩ := step_inv rfl h
  have legal : m.Legal := runOperations_keeps everyOperationKeepsTheInvariants (State.taken_legal hs) hm
  split
  · exact legal
  · exact State.strobes_legal legal _

/-- Every event keeps the invariants (00_scope.md R18). -/
theorem eventStep_legal {e : Event} {s t : State} (hs : s.Legal) (h : eventStep e s = .next t) : t.Legal := by
  obtain ⟨i, -, hi⟩ | ⟨p, rfl⟩ | rfl := eventStep_inv h
  · exact everyOperationKeepsTheInvariants i s t hs hi
  · exact State.strobes_legal hs p
  · exact State.taken_legal hs

theorem EventReachable.legal {s : State} (h : EventReachable s) : s.Legal := by
  induction h with
  | afterReset s a0 b0 a1 b1 => exact s.resetTo_legal a0 b0 a1 b1
  | afterEvent e s t _ hstep ih => exact eventStep_legal ih hstep

/-- Settles O51: by induction over events, which reach every state that steps reach. -/
theorem reachableStatesAreLegal : Obligations.ReachableStatesAreLegal :=
  ⟨fun _ h => h.eventReachable.legal, fun _ h => h.legal⟩

end Sys2Proof.Machine
end

section
/-! Who writes what (10_state.md R33). -/

namespace Sys2Proof.Machine

open Sys2Proof

/-- A writer found refutes the premise that no operand makes the operation a writer. -/
theorem not_forall_ne {α β : Type} {x : β} {f : α → β} {a : α} (h : x = f a) : ¬ ∀ a, x ≠ f a :=
  fun no => no a h

/-- Which operations an effect on wheel `w` takes for each register to change. -/
theorem WheelEffect.writers {w : Wheel} {i : Instr} {c d : Channel} (e : WheelEffect w i c d) :
    d.motStb = c.motStb ∧
    ((∀ k, encode i ≠ .qt w k) → d.aQ = c.aQ ∧ d.bQ = c.bQ ∧ (i ≠ qrstOf w → d.count = c.count)) ∧
    (i ≠ stickOf w → d.prevCount = c.prevCount ∧ d.angVel = c.angVel ∧ d.linVel = c.linVel) ∧
    (i ≠ ctickOf w →
      d.error = c.error ∧ d.duty = c.duty ∧ d.mode = c.mode ∧ d.motCmd = c.motCmd ∧ d.motMag = c.motMag ∧
      ((∀ v, i ≠ wrSetpointOf w v) → i ≠ .kinSet →
        d.prevErr = c.prevErr ∧ d.integral = c.integral ∧ d.ticks = c.ticks)) ∧
    ((∀ v, i ≠ wrSetpointOf w v) → i ≠ .kinSet → d.setpoint = c.setpoint) ∧
    ((∀ v, i ≠ wrKAngOf w v) → d.kAng = c.kAng) ∧ ((∀ v, i ≠ wrRadiusOf w v) → d.radius = c.radius) ∧
    ((∀ v, i ≠ wrFCOf w v) → d.fC = c.fC) ∧ ((∀ v, i ≠ wrKpOf w v) → d.kp = c.kp) ∧
    ((∀ v, i ≠ wrKiOf w v) → d.ki = c.ki) ∧ ((∀ v, i ≠ wrKdOf w v) → d.kd = c.kd) := by
  cases e with
  | unchanged => simp
  | @transition k hi d a b =>
    simp [not_forall_ne hi]
  | zeroCount hi => simp [hi]
  | sample hi => simp [hi]
  | control hi => simp [hi]
  | @setpoint v hi =>
    obtain hi | hi := hi
    · simp [not_forall_ne hi]
    · simp [hi]
  | @kAng v hi | @radius v hi | @fC v hi | @kp v hi | @ki v hi | @kd v hi =>
    simp [not_forall_ne hi]

/-- Settles O53: an operation's effect on wheel 0 says which registers it can change. -/
theorem writersOfLeftWheelRegisters : Obligations.WritersOfLeftWheelRegisters :=
  fun _ _ _ h hr => (exec_wheelEffect .left h hr).writers

/-- Settles O54: the same of wheel 1. -/
theorem writersOfRightWheelRegisters : Obligations.WritersOfRightWheelRegisters :=
  fun _ _ _ h hr => (exec_wheelEffect .right h hr).writers

/-- Using a draw moves its counter only (log 4). -/
@[simp] theorem State.useDraw_env_inputs (s : State) (w : Wheel) : (s.useDraw w).env.inputs = s.env.inputs := by
  cases w <;> rfl

@[simp] theorem State.useDraw_env_cycle (s : State) (w : Wheel) : (s.useDraw w).env.cycle = s.env.cycle := by
  cases w <;> rfl

/-- Settles O55: six operations write a global register besides `RESET`; every other one leaves them all. -/
theorem writersOfGlobalRegisters : Obligations.WritersOfGlobalRegisters := by
  intro i s t h hr
  cases i with
  | reset a0 b0 a1 b1 => exact absurd rfl (hr a0 b0 a1 b1)
  | wrCmdLin v | wrCmdAng v | wrTrack v | kinGet | enable | disable => cases h; simp
  | qnop0000 w | qnop0101 w | qnop1010 w | qnop1111 w | qaR0 w | qaR1 w | qaF0 w | qaF1 w | qbR0 w | qbR1 w | qbF0 w
  | qbF1 w => cases h; simp [edge]
  | qdbl0011 w | qdbl0110 w | qdbl1001 w | qdbl1100 w => cases h; simp [doubleEdge, edge]
  | _ =>
    cases h
    exact ⟨fun _ => rfl, fun _ => rfl, fun _ => rfl, fun _ => ⟨rfl, rfl⟩, fun _ _ => rfl, rfl, rfl⟩

end Sys2Proof.Machine
end

section
/-! Reset (10_state.md R48, 70_reset_and_hazards.md R200, R201). -/

namespace Sys2Proof.Machine

open Sys2Proof

/-- A step whose word asks for reset answers the reset state at the word's pin levels. -/
theorem step_of_reset {s : State} {p : Input} (hp : p = Input.ofWord s.nextWord) (hr : p.rst = true) :
    step s = .next (s.taken.resetTo p.encA0 p.encB0 p.encA1 p.encB1) := by
  have ops : runOperations (s.taken.operations p) s.taken =
      .next (s.taken.resetTo p.encA0 p.encB0 p.encA1 p.encB1) := by
    rw [operations_of_reset hr, runOperations_cons rfl, runOperations_nil]
  rw [step_eq, ← hp, cycle_of_operations ops, if_pos hr]

/-- Settles O46: the literal channel is `Channel.reset`, and a reset cycle runs `RESET` alone. -/
theorem resetLeavesTheResetState : Obligations.ResetLeavesTheResetState := by
  intro s ch hch
  obtain rfl : ch = Channel.reset := by funext a b; exact hch a b
  exact ⟨fun _ _ _ _ => rfl, fun _ hp hr => step_of_reset hp hr⟩

/-- Settles O47: one read per index. -/
theorem resetValuesOfTheRegisters : Obligations.ResetValuesOfTheRegisters := by
  unfold Obligations.ResetValuesOfTheRegisters
  decide

end Sys2Proof.Machine
end

section
/-! `EN` gates nothing inside the block (10_state.md R36): two runs that differ in it only. -/

namespace Sys2Proof.Machine

open Sys2Proof

/-! The relation. -/

theorem sameButEnable_iff {s t : State} :
    SameButEnable s t ↔ ∃ e v, s = { t with en := e, busRdata := v } :=
  ⟨fun h => ⟨s.en, s.busRdata, h.symm⟩, by rintro ⟨e, v, rfl⟩; rfl⟩

/-- Related states take the same input word and stay related (log 3). -/
theorem SameButEnable.nextWord_eq {s t : State} (h : SameButEnable s t) : s.nextWord = t.nextWord := by
  obtain ⟨e, v, rfl⟩ := sameButEnable_iff.1 h
  rfl

theorem SameButEnable.taken {s t : State} (h : SameButEnable s t) : SameButEnable s.taken t.taken := by
  obtain ⟨e, v, rfl⟩ := sameButEnable_iff.1 h
  unfold SameButEnable State.taken
  cases t.env.inputs <;> rfl

/-- Related states select the same operations. -/
theorem SameButEnable.operations_eq {s t : State} (h : SameButEnable s t) (p : Input) :
    s.operations p = t.operations p := by
  obtain ⟨e, v, rfl⟩ := sameButEnable_iff.1 h
  rfl

theorem SameButEnable.strobes {s t : State} (h : SameButEnable s t) (p : Input) :
    SameButEnable (s.strobes p) (t.strobes p) := by
  obtain ⟨e, v, rfl⟩ := sameButEnable_iff.1 h
  rfl

/-- Related states with equal read data show the same outputs but for `drv_en`. -/
theorem SameButEnable.outputs_eq {s t : State} (h : SameButEnable s t) (data : s.busRdata = t.busRdata) :
    s.outputs = { t.outputs with drvEn := s.en } := by
  obtain ⟨e, v, rfl⟩ := sameButEnable_iff.1 h
  simpa [State.outputs] using data

/-! One operation. -/

/-- An operation keeps two states related; unless it reads `GSTAT`, read data that were equal stay equal: the transitions
and the ticks leave them, and the other operations drive data that do not depend on `EN`. -/
theorem exec_sameButEnable {i : Instr} {s t s1 t1 : State} (h : SameButEnable s t) (hs : exec i s = .next s1)
    (ht : exec i t = .next t1) :
    SameButEnable s1 t1 ∧ (i ≠ .rdGstat → s.busRdata = t.busRdata → s1.busRdata = t1.busRdata) := by
  obtain ⟨e, v, rfl⟩ := sameButEnable_iff.1 h
  cases i with
  | qnop0000 w | qnop0101 w | qnop1010 w | qnop1111 w | qaR0 w | qaR1 w | qaF0 w | qaF1 w | qbR0 w | qbR1 w | qbF0 w
  | qbF1 w | qdbl0011 w | qdbl0110 w | qdbl1001 w | qdbl1100 w =>
    cases hs; cases ht
    cases w with
    | left => exact ⟨rfl, fun _ data => data⟩
    | right => exact ⟨rfl, fun _ data => data⟩
  | stick0 | stick1 | ctick0 | ctick1 => cases hs; cases ht; exact ⟨rfl, fun _ data => data⟩
  | rdGstat => cases hs; cases ht; exact ⟨rfl, fun notGstat => absurd rfl notGstat⟩
  | _ => cases hs; cases ht; exact ⟨rfl, fun _ _ => rfl⟩

/-! The bus operation of a cycle: which word reads `GSTAT`, and that it always drives the read data anew. -/

theorem decodeRead_eq_rdGstat {a : RegIndex} (h : decodeRead a = .rdGstat) : a = 0x46#8 := by
  revert a
  decide

theorem decodeCommand_ne_rdGstat (c : BitVec 8) : decodeCommand c ≠ .rdGstat := by
  revert c
  decide

theorem decodeWrite_ne_rdGstat (a : RegIndex) (v : Word) : decodeWrite a v ≠ .rdGstat := by
  have command := decodeCommand_ne_rdGstat (v.setWidth 8)
  unfold decodeWrite
  split
  case h_18 => exact command
  all_goals nofun

/-- Only a read of index 0x46 selects the read of `GSTAT` (44_sys.md R161). -/
theorem decodeBus_eq_rdGstat {p : Input} (h : decodeBus p = .rdGstat) :
    p.busReq = true ∧ p.busWe = false ∧ p.busAddr = 0x46#8 := by
  unfold decodeBus at h
  split_ifs at h with req we
  · exact absurd h (decodeWrite_ne_rdGstat _ _)
  · exact ⟨req, by simpa using we, decodeRead_eq_rdGstat h⟩

theorem exec_decodeCommand_drive (c : BitVec 8) (s : State) (d : Word) :
    exec (decodeCommand c) (s.drive d) = exec (decodeCommand c) s := by
  unfold decodeCommand
  split <;> rfl

theorem exec_decodeBus_drive (p : Input) (s : State) (d : Word) :
    exec (decodeBus p) (s.drive d) = exec (decodeBus p) s := by
  unfold decodeBus
  split_ifs
  · have command := exec_decodeCommand_drive (p.busWdata.setWidth 8) s d
    unfold decodeWrite
    split
    case h_18 => exact command
    all_goals rfl
  · unfold decodeRead
    split <;> rfl
  · rfl

/-- After a bus operation that does not read `GSTAT` the read data of related states are equal, whatever they were. -/
theorem exec_decodeBus_busRdata {p : Input} {s t s1 t1 : State} (notGstat : decodeBus p ≠ .rdGstat)
    (h : SameButEnable s t) (hs : exec (decodeBus p) s = .next s1) (ht : exec (decodeBus p) t = .next t1) :
    s1.busRdata = t1.busRdata := by
  have same : SameButEnable s (t.drive s.busRdata) := h
  rw [← exec_decodeBus_drive p t s.busRdata] at ht
  exact (exec_sameButEnable same hs ht).2 notGstat rfl

/-! Lists of operations, steps and runs. -/

/-- A relation of two states that each listed operation keeps, the list keeps. -/
theorem runOperations_keeps_related {R : State → State → Prop} {xs : List Instr}
    (one : ∀ i ∈ xs, ∀ s t s1 t1, R s t → exec i s = .next s1 → exec i t = .next t1 → R s1 t1) {s t s1 t1 : State}
    (h : R s t) (hs : runOperations xs s = .next s1) (ht : runOperations xs t = .next t1) : R s1 t1 := by
  induction xs generalizing s t with
  | nil => cases hs; cases ht; exact h
  | cons i rest ih =>
    obtain ⟨sm, hsm, hsr⟩ := runOperations_cons_inv hs
    obtain ⟨tm, htm, htr⟩ := runOperations_cons_inv ht
    exact ih (fun j hj => one j (.tail i hj)) (one i (.head rest) s t sm tm h hsm htm) hsr htr

theorem runOperations_sameButEnable {xs : List Instr} {s t s1 t1 : State} (h : SameButEnable s t)
    (hs : runOperations xs s = .next s1) (ht : runOperations xs t = .next t1) : SameButEnable s1 t1 :=
  runOperations_keeps_related (fun _ _ _ _ _ _ h hs ht => (exec_sameButEnable h hs ht).1) h hs ht

/-- Operations without a read of `GSTAT` keep equal read data equal. -/
theorem runOperations_busRdata {xs : List Instr} (notGstat : Instr.rdGstat ∉ xs) {s t s1 t1 : State}
    (h : SameButEnable s t) (data : s.busRdata = t.busRdata) (hs : runOperations xs s = .next s1)
    (ht : runOperations xs t = .next t1) : s1.busRdata = t1.busRdata := by
  refine (runOperations_keeps_related (R := fun s t => SameButEnable s t ∧ s.busRdata = t.busRdata)
    ?_ ⟨h, data⟩ hs ht).2
  rintro i hi s t s1 t1 ⟨h, data⟩ hs ht
  obtain ⟨same, keep⟩ := exec_sameButEnable h hs ht
  exact ⟨same, keep (fun hg => notGstat (hg ▸ hi)) data⟩

/-- In a cycle whose bus operation does not read `GSTAT` the read data come out equal: the transitions keep the states
related, the bus operation drives the data, and the ticks leave them. -/
theorem runOperations_operations_busRdata {p : Input} (hr : p.rst = false) (notGstat : decodeBus p ≠ .rdGstat)
    {u s t s1 t1 : State} (h : SameButEnable s t) (hs : runOperations (u.operations p) s = .next s1)
    (ht : runOperations (u.operations p) t = .next t1) : s1.busRdata = t1.busRdata := by
  simp only [operations_of_no_reset hr, List.cons_append, List.nil_append, List.append_assoc] at hs ht
  obtain ⟨sl, hsl, hs⟩ := runOperations_cons_inv hs
  obtain ⟨tl, htl, ht⟩ := runOperations_cons_inv ht
  obtain ⟨sr, hsr, hs⟩ := runOperations_cons_inv hs
  obtain ⟨tr, htr, ht⟩ := runOperations_cons_inv ht
  obtain ⟨sb, hsb, hs⟩ := runOperations_cons_inv hs
  obtain ⟨tb, htb, ht⟩ := runOperations_cons_inv ht
  have edges : SameButEnable sr tr := (exec_sameButEnable (exec_sameButEnable h hsl htl).1 hsr htr).1
  have bus : SameButEnable sb tb := (exec_sameButEnable edges hsb htb).1
  have data : sb.busRdata = tb.busRdata := exec_decodeBus_busRdata notGstat edges hsb htb
  exact runOperations_busRdata (by simp) bus data hs ht

/-- One step of each of two related states: the same operations ran in both, and the results are related. -/
theorem step_sameButEnable {s t s1 t1 : State} (h : SameButEnable s t) (hs : step s = .next s1)
    (ht : step t = .next t1) : SameButEnable s1 t1 := by
  obtain ⟨sm, hsm, rfl⟩ := step_inv rfl hs
  obtain ⟨tm, htm, rfl⟩ := step_inv (congrArg Input.ofWord h.nextWord_eq) ht
  rw [← h.operations_eq] at htm
  have same : SameButEnable sm tm := runOperations_sameButEnable h.taken hsm htm
  split
  · exact same
  · exact same.strobes _

/-- A step whose word is not a read of `GSTAT` leaves equal read data. -/
theorem step_busRdata {s t s1 t1 : State} {p : Input} (h : SameButEnable s t) (hp : p = Input.ofWord s.nextWord)
    (notGstat : p.rst = false → decodeBus p ≠ .rdGstat) (hs : step s = .next s1) (ht : step t = .next t1) :
    s1.busRdata = t1.busRdata := by
  have hp' : p = Input.ofWord t.nextWord := by rw [hp, h.nextWord_eq]
  cases hr : p.rst with
  | true => simp [step_inv_of_reset hp hr hs, step_inv_of_reset hp' hr ht]
  | false =>
    obtain ⟨sm, hsm, rfl⟩ := step_inv_of_no_reset hp hr hs
    obtain ⟨tm, htm, rfl⟩ := step_inv_of_no_reset hp' hr ht
    rw [← h.operations_eq] at htm
    have data : sm.busRdata = tm.busRdata :=
      runOperations_operations_busRdata hr (notGstat hr) h.taken hsm htm
    exact data

theorem run_sameButEnable (n : Nat) {s t s1 t1 : State} (h : SameButEnable s t)
    (hs : Host.Core.run Sys2Proof.core n s = .next s1) (ht : Host.Core.run Sys2Proof.core n t = .next t1) :
    SameButEnable s1 t1 := by
  induction n generalizing s t with
  | zero => cases hs; cases ht; exact h
  | succ n ih =>
    obtain ⟨sm, hsm, hs⟩ := run_succ_inv hs
    obtain ⟨tm, htm, ht⟩ := run_succ_inv ht
    exact ih (step_sameButEnable h hsm htm) hs ht

/-- Settles O45: the relation holds along the two runs, and a step's read data depend on `EN` through a read of `GSTAT`
only. -/
theorem enableGatesNothingInside : Obligations.EnableGatesNothingInside := by
  refine ⟨fun n _ _ _ _ h hs ht => run_sameButEnable n h hs ht, ?_⟩
  intro s t s1 t1 p h hs ht hp notGstat
  have data : s1.busRdata = t1.busRdata :=
    step_busRdata h hp (fun hr hg => notGstat ⟨hr, decodeBus_eq_rdGstat hg⟩) hs ht
  exact ⟨data, (step_sameButEnable h hs ht).outputs_eq data⟩

end Sys2Proof.Machine
end

section
/-! What one operation does, by the code, the index or the command code that selects it. -/

namespace Sys2Proof.Machine

open Sys2Proof

/-- A property of every numbered pattern is a property of every pattern. -/
theorem forall_of_forall_ofNat {n : Nat} {P : BitVec n → Prop} (each : ∀ k < 2 ^ n, P (BitVec.ofNat n k))
    (x : BitVec n) : P x := by
  simpa using each x.toNat x.isLt

/-! Transitions (40_qdec.md R102 to R112). -/

/-- The effect of a wheel's transition code: `QTrans` with the sampled levels read off the code. -/
def codeTransition (w : Wheel) (c : BitVec 4) (s : State) : State :=
  let moved := edge w (countChange c (Config.qdblDraw w (s.draws w))) (c.getLsbD 1) (c.getLsbD 0) s
  if isDouble c then moved.useDraw w else moved

/-- The operation a code selects has the code's effect. -/
theorem exec_decodeTransition (w : Wheel) (c : BitVec 4) (s : State) :
    exec (decodeTransition w c) s = .next (codeTransition w c s) := by
  revert c
  apply forall_of_forall_ofNat
  intro k hk
  interval_cases k <;> rfl

/-- `QTrans` is the effect of the code formed from the stored and the sampled levels (30_encoding.md R82). -/
theorem codeTransition_code (w : Wheel) (a b : Bool) (s : State) :
    codeTransition w ((s.wheel w).code a b) s = quadTransition w a b s := by
  obtain ⟨-, -, hA, hB⟩ := getLsbD_transitionCode (s.wheel w).aQ (s.wheel w).bQ a b
  simp only [codeTransition, quadTransition, edge, Channel.code, hA, hB]
  rfl

/-- The codes of the two wheels act on disjoint registers and draws (20_memory.md R70). -/
theorem codeTransition_comm (c d : BitVec 4) (s : State) :
    codeTransition .right d (codeTransition .left c s) = codeTransition .left c (codeTransition .right d s) := by
  unfold codeTransition
  cases isDouble c <;> cases isDouble d <;> rfl

/-- A transition moves its own wheel's channel by a transition. -/
theorem quadTransition_wheel (w : Wheel) (a b : Bool) (s : State) :
    ∃ d, (quadTransition w a b s).wheel w = (s.wheel w).transition d a b := by
  refine ⟨countChange ((s.wheel w).code a b) (Config.qdblDraw w (s.draws w)), ?_⟩
  simp only [quadTransition]
  split <;> simp

/-- It leaves the other wheel's channel. -/
theorem quadTransition_wheel_of_ne {w w' : Wheel} (h : w' ≠ w) (a b : Bool) (s : State) :
    (quadTransition w a b s).wheel w' = s.wheel w' := by
  simp only [quadTransition]
  split <;> simp [State.wheel_setWheel_of_ne s h]

/-- Pins that hold the stored levels make no transition (40_qdec.md R112). -/
theorem quadTransition_of_hold {w : Wheel} {a b : Bool} {s : State} (hA : (s.wheel w).aQ = a)
    (hB : (s.wheel w).bQ = b) : quadTransition w a b s = s := by
  have held : ∀ a b : Bool, isDouble (transitionCode a b a b) = false ∧
      countChange (transitionCode a b a b) = fun _ => 0 := by
    intro a b
    cases a <;> cases b <;> exact ⟨rfl, rfl⟩
  subst hA hB
  obtain ⟨single, zero⟩ := held (s.wheel w).aQ (s.wheel w).bQ
  simp [quadTransition, Channel.code, single, zero, Channel.transition_zero]

/-! The register port (44_sys.md R161, R162, R164). -/

theorem exec_decodeRead (a : RegIndex) (s : State) : exec (decodeRead a) s = .next (s.drive (busRead s a)) := by
  revert a
  apply forall_of_forall_ofNat
  intro k hk
  interval_cases k <;> rfl

theorem exec_decodeCommand (c : BitVec 8) (s : State) :
    exec (decodeCommand c) s = .next (execCommand c s).quiet := by
  revert c
  apply forall_of_forall_ofNat
  intro k hk
  interval_cases k <;> rfl

theorem exec_decodeWrite (a : RegIndex) (v : Word) (s : State) :
    exec (decodeWrite a v) s = .next (busWrite s a v).quiet := by
  revert a
  apply forall_of_forall_ofNat
  intro k hk
  obtain wheels | rfl | globals := Nat.lt_trichotomy k 0x40
  · interval_cases k <;> rfl
  · exact exec_decodeCommand (v.setWidth 8) s
  · interval_cases k <;> rfl

/-- The bus operation of a cycle is phase 2 (20_memory.md R70). -/
theorem exec_decodeBus (p : Input) (s : State) : exec (decodeBus p) s = .next (phaseBus p s) := by
  unfold decodeBus phaseBus
  split_ifs
  · exact exec_decodeWrite p.busAddr p.busWdata s
  · exact exec_decodeRead p.busAddr s
  · rfl

end Sys2Proof.Machine
end

section
/-! A step is the five phases (20_memory.md R70). -/

namespace Sys2Proof.Machine

open Sys2Proof

/-- The sample ticks of a cycle, in order. -/
def sampleOperations (p : Input) : List Instr :=
  (if p.stick0 then [.stick0] else []) ++ (if p.stick1 then [.stick1] else [])

/-- The control ticks of a cycle, in order. -/
def controlOperations (p : Input) : List Instr :=
  (if p.ctick0 then [.ctick0] else []) ++ (if p.ctick1 then [.ctick1] else [])

/-- All ticks of a cycle. -/
def tickOperations (p : Input) : List Instr := sampleOperations p ++ controlOperations p

/-- The operations of a cycle without reset: the transitions, the bus operation, the ticks. -/
theorem operations_eq_cons {p : Input} (hr : p.rst = false) (s : State) :
    s.operations p = decodeTransition .left (s.left.code p.encA0 p.encB0) ::
      decodeTransition .right (s.right.code p.encA1 p.encB1) :: decodeBus p :: tickOperations p := by
  simp [operations_of_no_reset hr, tickOperations, sampleOperations, controlOperations]

/-- The sample ticks are phase 3. -/
theorem runOperations_sampleOperations (p : Input) (s : State) :
    runOperations (sampleOperations p) s = .next (phaseSample p s) := by
  unfold sampleOperations phaseSample
  cases p.stick0 <;> cases p.stick1 <;> rfl

/-- The control ticks are phase 4. -/
theorem runOperations_controlOperations (p : Input) (s : State) :
    runOperations (controlOperations p) s = .next (phaseControl p s) := by
  unfold controlOperations phaseControl
  cases p.ctick0 <;> cases p.ctick1 <;> rfl

/-- The ticks are phases 3 and 4. -/
theorem runOperations_tickOperations (p : Input) (s : State) :
    runOperations (tickOperations p) s = .next (phaseControl p (phaseSample p s)) := by
  rw [tickOperations, runOperations_append (runOperations_sampleOperations p s), runOperations_controlOperations]

/-- The transitions are phase 1: the left wheel's leaves the levels that the right wheel's code is formed from. -/
theorem phaseEdges_eq_codeTransition (p : Input) (s : State) :
    codeTransition .right (s.right.code p.encA1 p.encB1)
      (codeTransition .left (s.left.code p.encA0 p.encB0) s) = phaseEdges p s := by
  have left : codeTransition .left (s.left.code p.encA0 p.encB0) s = quadTransition .left p.encA0 p.encB0 s :=
    codeTransition_code .left p.encA0 p.encB0 s
  have right : s.right = (quadTransition .left p.encA0 p.encB0 s).wheel .right :=
    (quadTransition_wheel_of_ne (w := .left) (w' := .right) (by decide) p.encA0 p.encB0 s).symm
  rw [left, right, codeTransition_code, phaseEdges]

/-- The operations of a cycle without reset are phases 1 to 4. -/
theorem runOperations_operations {p : Input} (hr : p.rst = false) (s : State) :
    runOperations (s.operations p) s = .next (phaseControl p (phaseSample p (phaseBus p (phaseEdges p s)))) := by
  rw [operations_eq_cons hr, runOperations_cons (exec_decodeTransition _ _ _),
    runOperations_cons (exec_decodeTransition _ _ _), phaseEdges_eq_codeTransition,
    runOperations_cons (exec_decodeBus _ _), runOperations_tickOperations]

/-- A step without reset answers what its operations leave, with the strobes (20_memory.md R70, R72). -/
theorem step_of_no_reset {s t : State} {p : Input} (hp : p = Input.ofWord s.nextWord) (hr : p.rst = false)
    (h : runOperations (s.operations p) s.taken = .next t) : step s = .next (t.strobes p) := by
  rw [← operations_taken] at h
  rw [step_eq, ← hp, cycle_of_operations h, hr, if_neg Bool.false_ne_true]

theorem step_eq_cycleByPhases {s : State} {p : Input} (hp : p = Input.ofWord s.nextWord) :
    step s = .next (cycleByPhases p s.taken) := by
  unfold cycleByPhases
  cases hr : p.rst with
  | true => exact step_of_reset hp hr
  | false =>
    have phases := runOperations_operations hr s.taken
    rw [operations_taken] at phases
    exact step_of_no_reset hp hr phases

/-- Taking the input word changes the model's own fields only (log 3). -/
theorem taken_eq (s : State) : s.taken = { s with env := s.taken.env } := by
  unfold State.taken
  split <;> rfl

/-- Settles O7: each phase is what its operations do, and a reset cycle is `RESET` alone. -/
theorem stepIsTheFivePhases : Obligations.StepIsTheFivePhases :=
  fun s => ⟨step_eq_cycleByPhases rfl, taken_eq s⟩

/-- Settles O5: the listed operations are those of the cycle, with each code written out. -/
theorem stepRunsTheCyclesOperations : Obligations.StepRunsTheCyclesOperations := by
  intro s p hp
  refine ⟨fun hr t h => ?_, fun hr => step_of_reset hp hr, fun i rest h => ?_, taken_eq s⟩
  · exact step_of_no_reset hp hr ((congrArg (runOperations · s.taken) (operations_of_no_reset hr s)).trans h)
  · exact ⟨s.nextWord_cons h, by rw [s.taken_env_cons h]⟩

/-- Settles O9: the two transitions commute, and each tick is of its own channel. -/
theorem wheelOrderIsUnobservable : Obligations.WheelOrderIsUnobservable := by
  intro c d s
  refine ⟨⟨codeTransition .left c (codeTransition .right d s), ?_, ?_⟩, ⟨_, rfl, rfl⟩, ⟨_, rfl, rfl⟩⟩
  · rw [runOperations_cons (exec_decodeTransition _ _ _), runOperations_cons (exec_decodeTransition _ _ _),
      codeTransition_comm, runOperations_nil]
  · rw [runOperations_cons (exec_decodeTransition _ _ _), runOperations_cons (exec_decodeTransition _ _ _),
      runOperations_nil]

/-- Settles O10: a reset step leaves both strobes 0, and any other step ends with the strobe bookkeeping. -/
theorem strobeOutputShowsControlTick : Obligations.StrobeOutputShowsControlTick := by
  intro s t h p hp
  cases hr : p.rst with
  | true => exact step_motStb_of_reset hp hr h
  | false => exact step_motStb_of_no_reset hp hr h

end Sys2Proof.Machine
end

section
/-! An operation alone in its cycle (30_encoding.md R88, R93). -/

namespace Sys2Proof.Machine

open Sys2Proof

/-- Apart from the transitions, a cycle with the input `p` runs the one operation `i`: of the bus, or a tick. -/
inductive RunsAlone (i : Instr) (p : Input) : Prop where
  | bus (hr : p.rst = false) (hbus : decodeBus p = i) (hticks : tickOperations p = [])
  | tick (hr : p.rst = false) (hbus : decodeBus p = .noBus) (hticks : tickOperations p = [i])

theorem RunsAlone.no_reset {i : Instr} {p : Input} (h : RunsAlone i p) : p.rst = false := by
  obtain ⟨hr, -, -⟩ | ⟨hr, -, -⟩ := h <;> exact hr

/-- The encoder pins select no operation of the bus and no tick (30_encoding.md R88). -/
theorem RunsAlone.with_pins {i : Instr} {p : Input} (h : RunsAlone i p) (a0 b0 a1 b1 : Bool) :
    RunsAlone i { p with encA0 := a0, encB0 := b0, encA1 := a1, encB1 := b1 } := by
  obtain ⟨hr, hbus, hticks⟩ | ⟨hr, hbus, hticks⟩ := h
  · exact .bus hr hbus hticks
  · exact .tick hr hbus hticks

/-- Phases 2 to 4 of a cycle that runs `i` alone are `i`, after which there are no old read data. -/
theorem RunsAlone.exec_quiet {i : Instr} {p : Input} (h : RunsAlone i p) (s : State) :
    exec i s.quiet = .next (phaseControl p (phaseSample p (phaseBus p s))) := by
  have ticks := runOperations_tickOperations p (phaseBus p s)
  obtain ⟨-, hbus, hticks⟩ | ⟨-, hbus, hticks⟩ := h
  · rw [hticks] at ticks
    rw [← ticks, ← hbus, State.quiet, exec_decodeBus_drive, exec_decodeBus]
    rfl
  · have silent : phaseBus p s = s.quiet := by
      have bus := exec_decodeBus p s
      rw [hbus] at bus
      injection bus with bus
      exact bus.symm
    rw [hticks] at ticks
    obtain ⟨t, ht, hnil⟩ := runOperations_cons_inv ticks
    rw [← silent, ht, ← hnil, runOperations_nil]

/-- The step of such a cycle: its transitions, then `i`, then the strobes. -/
theorem RunsAlone.step {i : Instr} {p : Input} (h : RunsAlone i p) {s : State} (hp : p = Input.ofWord s.nextWord) :
    ∃ t, exec i (phaseEdges p s.taken).quiet = .next t ∧ step s = .next (t.strobes p) := by
  refine ⟨_, h.exec_quiet _, ?_⟩
  rw [step_eq_cycleByPhases hp, cycleByPhases, h.no_reset, if_neg Bool.false_ne_true]

/-! Which operation an encoded word runs. -/

theorem runsAlone_read {a : RegIndex} {i : Instr} (h : decodeRead a = i) :
    RunsAlone i (Input.ofWord (Input.read a)) := by
  rw [Input.read, Input.ofWord_toWord]
  exact .bus rfl h rfl

theorem runsAlone_write {a : RegIndex} {v : Word} {i : Instr} (h : decodeWrite a v = i) :
    RunsAlone i (Input.ofWord (Input.write a v)) := by
  rw [Input.write, Input.ofWord_toWord]
  exact .bus rfl h rfl

theorem decodeRead_of_readsZero {a : RegIndex} (h : readsZero a = true) : decodeRead a = .rdZero a := by
  revert a
  decide

theorem decodeCommand_of_reservedCode {c : BitVec 8} (h : reservedCode c = true) :
    decodeCommand c = .wrCmdReserved c := by
  revert c
  decide

theorem decodeWrite_of_writeIgnored {a : RegIndex} (h : writeIgnored a = true) (v : Word) :
    decodeWrite a v = .wrIgnored a v := by
  unfold decodeWrite
  split
  case h_19 => rfl
  all_goals next hk => simp [writeIgnored, hk] at h

/-- A tick's word asks for the tick alone. -/
theorem runsAlone_tick {p : Input} {i : Instr} (hr : p.rst = false) (hbus : decodeBus p = .noBus)
    (hticks : tickOperations p = [i]) : RunsAlone i (Input.ofWord p.toWord) := by
  rw [Input.ofWord_toWord]
  exact .tick hr hbus hticks

/-- The word of a well-formed operation but `RESET` runs that operation alone (30_encoding.md R88). -/
theorem runsAlone_of_encode {i : Instr} {j : InputWord} (wf : i.WellFormed)
    (hr : ∀ a0 b0 a1 b1, i ≠ .reset a0 b0 a1 b1) (h : encode i = .input j) : RunsAlone i (Input.ofWord j) := by
  cases i with
  | reset a0 b0 a1 b1 => exact absurd rfl (hr a0 b0 a1 b1)
  | qnop0000 w | qnop0101 w | qnop1010 w | qnop1111 w | qaR0 w | qaR1 w | qaF0 w | qaF1 w | qbR0 w | qbR1 w | qbF0 w
  | qbF1 w | qdbl0011 w | qdbl0110 w | qdbl1001 w | qdbl1100 w => cases h
  | stick0 | stick1 | ctick0 | ctick1 => cases h; exact runsAlone_tick rfl rfl rfl
  | noBus => cases h; rw [Input.ofWord_toWord]; exact .bus rfl rfl rfl
  | rdZero a => cases h; exact runsAlone_read (decodeRead_of_readsZero wf)
  | wrIgnored a v => cases h; exact runsAlone_write (decodeWrite_of_writeIgnored wf v)
  | wrCmdReserved c =>
    cases h
    have command : decodeWrite 0x40#8 (c.setWidth 32) = decodeCommand ((c.setWidth 32).setWidth 8) := rfl
    refine runsAlone_write (command.trans ?_)
    rw [BitVec.setWidth_setWidth_of_le _ (by decide), BitVec.setWidth_eq, decodeCommand_of_reservedCode wf]
  | wrKAng0 v | wrRadius0 v | wrFC0 v | wrKp0 v | wrKi0 v | wrKd0 v | wrKAng1 v | wrRadius1 v | wrFC1 v | wrKp1 v
  | wrKi1 v | wrKd1 v | wrCmdLin v | wrCmdAng v | wrTrack v | wrSetpoint0 v | wrSetpoint1 v | nop | kinSet | kinGet
  | enable | disable | qrst0 | qrst1 => cases h; exact runsAlone_write rfl
  | _ => cases h; exact runsAlone_read rfl

/-! Transitions alone. -/

theorem eq_decodeTransition_of_encode {i : Instr} {w : Wheel} {c : BitVec 4} (h : encode i = .qt w c) :
    i = decodeTransition w c := by
  cases i with
  | qnop0000 w | qnop0101 w | qnop1010 w | qnop1111 w | qaR0 w | qaR1 w | qaF0 w | qaF1 w | qbR0 w | qbR1 w | qbF0 w
  | qbF1 w | qdbl0011 w | qdbl0110 w | qdbl1001 w | qdbl1100 w => cases h; rfl
  | _ => cases h

/-- With the code's old levels stored, sampling its new levels has the code's effect (30_encoding.md R82). -/
theorem quadTransition_of_code {w : Wheel} {c : BitVec 4} {s : State} (hA : (s.wheel w).aQ = c.getLsbD 3)
    (hB : (s.wheel w).bQ = c.getLsbD 2) :
    quadTransition w (c.getLsbD 1) (c.getLsbD 0) s = codeTransition w c s := by
  have code : ∀ c : BitVec 4,
      transitionCode (c.getLsbD 3) (c.getLsbD 2) (c.getLsbD 1) (c.getLsbD 0) = c := by decide
  rw [← codeTransition_code, Channel.code, hA, hB, code]

/-- With the right pins held, phase 1 is the left wheel's transition. -/
theorem phaseEdges_of_right_hold {p : Input} {s : State} (hA : s.right.aQ = p.encA1) (hB : s.right.bQ = p.encB1) :
    phaseEdges p s = quadTransition .left p.encA0 p.encB0 s := by
  have right : (quadTransition .left p.encA0 p.encB0 s).wheel .right = s.right :=
    quadTransition_wheel_of_ne (by decide) _ _ _
  exact quadTransition_of_hold (by rw [right, hA]) (by rw [right, hB])

/-- With the left pins held, phase 1 is the right wheel's transition. -/
theorem phaseEdges_of_left_hold {p : Input} {s : State} (hA : s.left.aQ = p.encA0) (hB : s.left.bQ = p.encB0) :
    phaseEdges p s = quadTransition .right p.encA1 p.encB1 s := by
  have left : quadTransition .left p.encA0 p.encB0 s = s := quadTransition_of_hold hA hB
  rw [phaseEdges, left]

/-- A cycle whose transitions have one code's effect, and which asks for nothing else, runs that code's operation. -/
theorem step_of_lone_transition {w : Wheel} {c : BitVec 4} {i : Instr} {p : Input} {s : State}
    (hi : encode i = .qt w c) (hp : p = Input.ofWord s.nextWord) (alone : RunsAlone .noBus p)
    (edges : phaseEdges p s.taken = codeTransition w c s.taken) :
    ∃ t, exec i s.taken = .next t ∧ step s = .next (t.quiet.strobes p) := by
  obtain ⟨t, ht, hstep⟩ := alone.step hp
  cases ht
  rw [edges] at hstep
  exact ⟨codeTransition w c s.taken, by rw [eq_decodeTransition_of_encode hi, exec_decodeTransition], hstep⟩

/-- An empty cycle runs no operation but the transitions, whatever the pins. -/
theorem runsAlone_idle : RunsAlone .noBus Input.idle := .bus rfl rfl rfl

/-- Settles O6: the word runs the operation alone; where the pins hold the stored levels, phase 1 changes nothing, and
where they show a code's new levels it is that code's operation. -/
theorem stepRunsALoneOperation : Obligations.StepRunsALoneOperation := by
  refine ⟨fun i s j wf hr hi hword => ?_, fun i s c hi hA hB hword => ?_, fun i s c hi hA hB hword => ?_⟩
  · obtain ⟨t, ht, hstep⟩ := ((runsAlone_of_encode wf hr hi).with_pins _ _ _ _).step hword.symm
    rw [phaseEdges_of_right_hold (by simp) (by simp), quadTransition_of_hold (by simp) (by simp)] at ht
    exact ⟨t, ht, hstep⟩
  · refine step_of_lone_transition hi hword.symm (runsAlone_idle.with_pins _ _ _ _) ?_
    rw [phaseEdges_of_right_hold (by simp) (by simp), quadTransition_of_code (by simpa using hA) (by simpa using hB)]
  · refine step_of_lone_transition hi hword.symm (runsAlone_idle.with_pins _ _ _ _) ?_
    rw [phaseEdges_of_left_hold (by simp) (by simp), quadTransition_of_code (by simpa using hA) (by simpa using hB)]

end Sys2Proof.Machine
end

section
/-! What a cycle leaves on one wheel, phase by phase (20_memory.md R70). -/

namespace Sys2Proof.Machine

open Sys2Proof

/-- Wheel `w`'s sample tick in the input (30_encoding.md R80). -/
def stickPin (p : Input) : Wheel → Bool
  | .left => p.stick0
  | .right => p.stick1

/-- Wheel `w`'s control tick in the input (30_encoding.md R80). -/
def ctickPin (p : Input) : Wheel → Bool
  | .left => p.ctick0
  | .right => p.ctick1

/-- A channel after the ticks of a cycle: the sample first. -/
def Channel.ticked (c : Channel) (stick ctick : Bool) : Channel :=
  let sampled := if stick then c.sample else c
  if ctick then sampled.control else sampled

@[simp] theorem Channel.ticked_count (c : Channel) (stick ctick : Bool) : (c.ticked stick ctick).count = c.count := by
  cases stick <;> cases ctick <;> simp [Channel.ticked]

/-- Phase 1 moves a wheel's channel by a transition. -/
theorem phaseEdges_wheel (w : Wheel) (p : Input) (s : State) :
    ∃ d a b, (phaseEdges p s).wheel w = (s.wheel w).transition d a b := by
  unfold phaseEdges
  cases w with
  | left =>
    obtain ⟨d, hd⟩ := quadTransition_wheel .left p.encA0 p.encB0 s
    exact ⟨d, _, _, by rw [quadTransition_wheel_of_ne (by decide), hd]⟩
  | right =>
    obtain ⟨d, hd⟩ := quadTransition_wheel .right p.encA1 p.encB1 (quadTransition .left p.encA0 p.encB0 s)
    exact ⟨d, _, _, by rw [hd, quadTransition_wheel_of_ne (by decide)]⟩

/-- A cycle without reset leaves on a wheel what phase 2 left, ticked, and the strobe. -/
theorem cycleByPhases_wheel {p : Input} (hr : p.rst = false) (w : Wheel) (s : State) :
    (cycleByPhases p s).wheel w =
      { ((phaseBus p (phaseEdges p s)).wheel w).ticked (stickPin p w) (ctickPin p w) with motStb := ctickPin p w } := by
  rw [cycleByPhases, hr, if_neg Bool.false_ne_true]
  cases w <;> rfl

/-- The ticks and the strobes leave the read data. -/
theorem cycleByPhases_busRdata {p : Input} (hr : p.rst = false) (s : State) :
    (cycleByPhases p s).busRdata = (phaseBus p (phaseEdges p s)).busRdata := by
  rw [cycleByPhases, hr, if_neg Bool.false_ne_true]
  rfl

/-- A step that answers a state answers the five phases'. -/
theorem step_inv_phases {s t : State} {p : Input} (hp : p = Input.ofWord s.nextWord) (h : step s = .next t) :
    t = cycleByPhases p s.taken := by
  rw [step_eq_cycleByPhases hp] at h
  injection h with h
  exact h.symm

theorem phaseBus_of_read {p : Input} (req : p.busReq = true) (we : p.busWe = false) (s : State) :
    phaseBus p s = s.drive (busRead s p.busAddr) := by
  simp [phaseBus, req, we]

theorem phaseBus_of_write {p : Input} (req : p.busReq = true) (we : p.busWe = true) (s : State) :
    phaseBus p s = (busWrite s p.busAddr p.busWdata).quiet := by
  simp [phaseBus, req, we, State.quiet]

end Sys2Proof.Machine
end

section
/-! What a read sees (20_memory.md R73). -/

namespace Sys2Proof.Machine

open Sys2Proof

/-- The bits of `QSTAT` (10_state.md R37). -/
theorem Channel.getLsbD_qstat (c : Channel) : c.qstat.getLsbD 0 = c.aQ ∧ c.qstat.getLsbD 1 = c.bQ := by
  have bits : ∀ a b : Bool, ((BitVec.ofBool b ++ BitVec.ofBool a).setWidth 32).getLsbD 0 = a ∧
      ((BitVec.ofBool b ++ BitVec.ofBool a).setWidth 32).getLsbD 1 = b := by decide
  exact bits c.aQ c.bQ

/-- The bits of `PSTAT` (10_state.md R37). -/
theorem Channel.getLsbD_pstat (c : Channel) :
    c.pstat.getLsbD 0 = c.mode ∧ c.pstat.extractLsb' 1 2 = c.motCmd ∧ c.pstat.getLsbD 3 = c.motStb := by
  have bits : ∀ (mode stb : Bool) (cmd : BitVec 2),
      ((BitVec.ofBool stb ++ cmd ++ BitVec.ofBool mode).setWidth 32).getLsbD 0 = mode ∧
      ((BitVec.ofBool stb ++ cmd ++ BitVec.ofBool mode).setWidth 32).extractLsb' 1 2 = cmd ∧
      ((BitVec.ofBool stb ++ cmd ++ BitVec.ofBool mode).setWidth 32).getLsbD 3 = stb := by decide
  exact bits c.mode c.motStb c.motCmd

/-- A cycle that reads leaves the count of phase 1, whatever ticks follow. -/
theorem count_of_read {p : Input} (hr : p.rst = false) (req : p.busReq = true) (we : p.busWe = false) (w : Wheel)
    (s : State) : ((cycleByPhases p s).wheel w).count = ((phaseEdges p s).wheel w).count := by
  rw [cycleByPhases_wheel hr, phaseBus_of_read req we]
  simp

/-- Phase 1 leaves the velocity and the strobe. -/
theorem phaseEdges_linVel (w : Wheel) (p : Input) (s : State) :
    ((phaseEdges p s).wheel w).linVel = (s.wheel w).linVel := by
  obtain ⟨d, a, b, h⟩ := phaseEdges_wheel w p s
  rw [h, Channel.transition_linVel]

theorem phaseEdges_motStb (w : Wheel) (p : Input) (s : State) :
    ((phaseEdges p s).wheel w).motStb = (s.wheel w).motStb := by
  obtain ⟨d, a, b, h⟩ := phaseEdges_wheel w p s
  rw [h, Channel.transition_motStb]

/-- Settles O11: the read data are read off phase 1's state, of which the ticks keep the count, and which has the
velocity and the strobe from before the cycle. -/
theorem readSeesTheStateAfterPhaseOne : Obligations.ReadSeesTheStateAfterPhaseOne := by
  intro s t h p hp hr req we
  obtain rfl := step_inv_phases hp h
  have data : (cycleByPhases p s.taken).busRdata = busRead (phaseEdges p s.taken) p.busAddr := by
    rw [cycleByPhases_busRdata hr, phaseBus_of_read req we, State.drive_busRdata]
  have count := fun w => count_of_read hr req we w s.taken
  have linVel := fun w => phaseEdges_linVel w p s.taken
  have motStb := fun w => phaseEdges_motStb w p s.taken
  simp only [State.wheel_taken] at linVel motStb
  rw [data]
  refine ⟨rfl, fun ha => ?_, fun ha => ?_, fun ha => ?_, fun ha => ?_, fun ha => ?_, fun ha => ?_⟩ <;> rw [ha]
  · exact (count .left).symm
  · exact (count .right).symm
  · exact linVel .left
  · exact linVel .right
  · obtain ⟨-, -, stb⟩ := (phaseEdges p s.taken).left.getLsbD_pstat
    exact stb.trans (motStb .left)
  · obtain ⟨-, -, stb⟩ := (phaseEdges p s.taken).right.getLsbD_pstat
    exact stb.trans (motStb .right)

end Sys2Proof.Machine
end

section
/-! A setpoint written in a control tick's cycle (20_memory.md R70, 42_pid.md R138, R140). -/

namespace Sys2Proof.Machine

open Sys2Proof

/-- The index of `SETPOINT[w]` (20_memory.md R68). -/
def setpointIndex : Wheel → RegIndex
  | .left => 0x07#8
  | .right => 0x27#8

/-- The setpoint that `KIN_SET` writes to a wheel (43_kin.md R151). -/
def State.kinSetpoint (s : State) : Wheel → Word
  | .left => toReg (sat32 (s32 s.cmdLin - s.halfTurn))
  | .right => toReg (sat32 (s32 s.cmdLin + s.halfTurn))

/-- What the control tick of the cycle that writes the setpoint `v` to the channel `old` leaves in `new`. -/
structure TickedAtSetpoint (v : Word) (old new : Channel) : Prop where
  setpoint : new.setpoint = v
  regulates : v ≠ 0 → v ≠ old.setpoint → new.mode = true ∧ new.ticks = 1
  idles : v = 0 → new.mode = false ∧ new.motCmd = 0 ∧ new.motMag = 0 ∧ new.prevErr = 0

/-- The same with the setpoint repeated in each case, as 42_pid.md R138 has it. -/
theorem TickedAtSetpoint.clauses {v : Word} {old new : Channel} (h : TickedAtSetpoint v old new) :
    (v ≠ 0 → v ≠ old.setpoint → new.mode = true ∧ new.setpoint = v ∧ new.ticks = 1) ∧
    (v = 0 →
      new.mode = false ∧ new.setpoint = 0 ∧ new.motCmd = 0 ∧ new.motMag = 0 ∧ new.prevErr = 0) := by
  obtain ⟨setpoint, regulates, idles⟩ := h
  refine ⟨fun nonzero changed => ?_, fun zero => ?_⟩
  · obtain ⟨mode, ticks⟩ := regulates nonzero changed
    exact ⟨mode, setpoint, ticks⟩
  · obtain ⟨mode, motor⟩ := idles zero
    exact ⟨mode, setpoint.trans zero, motor⟩

/-- A control tick with a setpoint and a stall counter of 0 regulates and counts 1 (42_pid.md R130, R136). -/
theorem Channel.control_of_fresh {c : Channel} (hs : c.setpoint ≠ 0) (ht : c.ticks = 0) :
    c.control.mode = true ∧ c.control.ticks = 1 := by
  have active : c.idles = false := by
    rw [Channel.not_idles_iff, ht]
    exact ⟨hs, Nat.zero_le _⟩
  rw [Channel.control_of_not_idles active, Channel.regulate_ticks, Channel.nextTicks, ht]
  exact ⟨Channel.regulate_mode c, rfl⟩

/-- A control tick with the setpoint 0 idles (42_pid.md R131, R133). -/
theorem Channel.control_of_zero {c : Channel} (hs : c.setpoint = 0) : c.control = c.enterIdle :=
  Channel.control_of_idles (c.idles_iff.2 (.inl hs))

/-- A control tick that regulates uses the velocity it finds (42_pid.md R134). -/
theorem Channel.control_error {c : Channel} (h : c.control.mode = true) :
    c.control.error = toReg (sat32 (s32 c.control.setpoint - s32 c.control.linVel)) := by
  obtain ⟨-, idle⟩ | ⟨-, regulating⟩ := c.control_cases
  · simp [idle] at h
  · rw [regulating, Channel.regulate_error, Channel.regulate_setpoint, Channel.regulate_linVel, Channel.pidError]

/-- A control tick on a setpoint just written, with or without a sample between. -/
theorem Channel.ticked_setSetpoint (c : Channel) (v : Word) (stick : Bool) :
    TickedAtSetpoint v c ((c.setSetpoint v).ticked stick true) := by
  have ticked : (c.setSetpoint v).ticked stick true =
      (if stick then (c.setSetpoint v).sample else c.setSetpoint v).control := rfl
  have setpoint : (if stick then (c.setSetpoint v).sample else c.setSetpoint v).setpoint = v := by
    cases stick <;> simp
  have ticks (hv : v ≠ c.setpoint) : (if stick then (c.setSetpoint v).sample else c.setSetpoint v).ticks = 0 := by
    cases stick <;> simp [hv]
  rw [ticked]
  generalize (if stick then (c.setSetpoint v).sample else c.setSetpoint v) = d at setpoint ticks
  subst setpoint
  refine ⟨d.control_setpoint, fun nonzero new => Channel.control_of_fresh nonzero (ticks new), fun zero => ?_⟩
  rw [Channel.control_of_zero zero]
  exact ⟨rfl, rfl, rfl, rfl⟩

/-- A write to `SETPOINT[w]` sets the channel's setpoint (42_pid.md R138). -/
theorem busWrite_setpointIndex (w : Wheel) (v : Word) (s : State) :
    (busWrite s (setpointIndex w) v).wheel w = (s.wheel w).setSetpoint v := by
  cases w <;> rfl

/-- A write of the code 0x01 to `CMD` sets both (43_kin.md R151). -/
theorem busWrite_kinSet {v : Word} (code : v.setWidth 8 = 0x01#8) (w : Wheel) (s : State) :
    (busWrite s 0x40#8 v).wheel w = (s.wheel w).setSetpoint (s.kinSetpoint w) := by
  have command : busWrite s 0x40#8 v = execCommand (v.setWidth 8) s := rfl
  rw [command, code]
  cases w <;> rfl

/-- Phase 1 leaves the arguments of `KIN_SET`. -/
theorem quadTransition_kinSetpoint (w w' : Wheel) (a b : Bool) (s : State) :
    (quadTransition w' a b s).kinSetpoint w = s.kinSetpoint w := by
  simp only [quadTransition]
  cases w <;> split <;> simp [State.kinSetpoint, State.halfTurn]

theorem phaseEdges_kinSetpoint (w : Wheel) (p : Input) (s : State) :
    (phaseEdges p s).kinSetpoint w = s.kinSetpoint w := by
  rw [phaseEdges, quadTransition_kinSetpoint, quadTransition_kinSetpoint]

theorem taken_kinSetpoint (w : Wheel) (s : State) : s.taken.kinSetpoint w = s.kinSetpoint w := by
  cases w <;> simp [State.kinSetpoint, State.halfTurn]

/-- In a control tick's cycle, a phase 2 that sets the wheel's setpoint comes before the tick. -/
theorem tickedAtSetpoint_of_phaseBus {w : Wheel} {p : Input} {s : State} {v : Word} (hr : p.rst = false)
    (tick : ctickPin p w = true)
    (bus : (phaseBus p (phaseEdges p s.taken)).wheel w = ((phaseEdges p s.taken).wheel w).setSetpoint v) :
    TickedAtSetpoint v (s.wheel w) ((cycleByPhases p s.taken).wheel w) := by
  obtain ⟨d, a, b, edges⟩ := phaseEdges_wheel w p s.taken
  rw [cycleByPhases_wheel hr, bus, edges, tick, State.wheel_taken]
  obtain ⟨setpoint, regulates, idles⟩ := Channel.ticked_setSetpoint ((s.wheel w).transition d a b) v (stickPin p w)
  exact ⟨setpoint, regulates, idles⟩

theorem tickedAtSetpoint_of_write {w : Wheel} {p : Input} (s : State) (hr : p.rst = false)
    (tick : ctickPin p w = true) (req : p.busReq = true) (we : p.busWe = true) (addr : p.busAddr = setpointIndex w) :
    TickedAtSetpoint p.busWdata (s.wheel w) ((cycleByPhases p s.taken).wheel w) := by
  refine tickedAtSetpoint_of_phaseBus hr tick ?_
  rw [phaseBus_of_write req we, addr, State.quiet, State.wheel_drive, busWrite_setpointIndex]

theorem tickedAtSetpoint_of_kinSet {w : Wheel} {p : Input} (s : State) (hr : p.rst = false)
    (tick : ctickPin p w = true) (req : p.busReq = true) (we : p.busWe = true) (addr : p.busAddr = 0x40#8)
    (code : p.busWdata.setWidth 8 = 0x01#8) :
    TickedAtSetpoint (s.kinSetpoint w) (s.wheel w) ((cycleByPhases p s.taken).wheel w) := by
  refine tickedAtSetpoint_of_phaseBus hr tick ?_
  rw [phaseBus_of_write req we, addr, State.quiet, State.wheel_drive, busWrite_kinSet code, phaseEdges_kinSetpoint,
    taken_kinSetpoint]

/-- A wheel that a control tick's cycle leaves regulating has the error of the velocity the cycle leaves. -/
theorem cycleByPhases_error {w : Wheel} {p : Input} {s : State} (hr : p.rst = false) (tick : ctickPin p w = true)
    (mode : ((cycleByPhases p s).wheel w).mode = true) :
    ((cycleByPhases p s).wheel w).error =
      toReg (sat32 (s32 ((cycleByPhases p s).wheel w).setpoint - s32 ((cycleByPhases p s).wheel w).linVel)) := by
  rw [cycleByPhases_wheel hr, tick] at mode ⊢
  exact Channel.control_error mode

/-- Settles O29: each wheel's setpoint of phase 2 stands when phase 4 ticks, and phase 3 writes the velocity before. -/
theorem writeAndSampleComeBeforeTheControlTick : Obligations.WriteAndSampleComeBeforeTheControlTick := by
  intro s t h p hp hr
  obtain rfl := step_inv_phases hp h
  refine ⟨fun tick => ⟨fun req we addr => ?_, fun req we addr code v hv => ?_, ?_⟩,
    fun tick => ⟨fun req we addr => ?_, fun req we addr code v hv => ?_, ?_⟩⟩
  · exact (tickedAtSetpoint_of_write (w := .left) s hr tick req we addr).clauses
  · obtain ⟨setpoint, regulates, idles⟩ := tickedAtSetpoint_of_kinSet (w := .left) s hr tick req we addr code
    subst hv
    exact ⟨setpoint, regulates, idles⟩
  · exact cycleByPhases_error (w := .left) hr tick
  · exact (tickedAtSetpoint_of_write (w := .right) s hr tick req we addr).clauses
  · obtain ⟨setpoint, regulates, idles⟩ := tickedAtSetpoint_of_kinSet (w := .right) s hr tick req we addr code
    subst hv
    exact ⟨setpoint, regulates, idles⟩
  · exact cycleByPhases_error (w := .right) hr tick

end Sys2Proof.Machine
end

section
/-! Writes are idempotent (20_memory.md R66). -/

namespace Sys2Proof.Machine

open Sys2Proof

/-- A setpoint written again is already held (42_pid.md R137). -/
theorem Channel.setSetpoint_setSetpoint (c : Channel) (v : Word) :
    (c.setSetpoint v).setSetpoint v = c.setSetpoint v := by
  have held := (c.setSetpoint v).setSetpoint_same
  rwa [Channel.setSetpoint_setpoint] at held

theorem Channel.writeAt_writeAt (c : Channel) (o : Nat) (v : Word) : (c.writeAt o v).writeAt o v = c.writeAt o v := by
  unfold Channel.writeAt
  split
  case h_3 => exact c.setSetpoint_setSetpoint v
  case h_8 => simp only [*]
  all_goals rfl

@[simp] theorem State.setWheel_setWheel (s : State) (w : Wheel) (c d : Channel) :
    (s.setWheel w c).setWheel w d = s.setWheel w d := by
  cases w <;> rfl

/-- A write to any index but `CMD`, done twice, is the write. -/
theorem busWrite_busWrite {a : RegIndex} (h : a ≠ 0x40#8) (v : Word) (s : State) :
    busWrite (busWrite s a v) a v = busWrite s a v := by
  unfold busWrite
  split
  · rw [State.wheel_setWheel, Channel.writeAt_writeAt, State.setWheel_setWheel]
  · split
    case h_1 command => exact absurd (BitVec.eq_of_toNat_eq command) h
    case h_5 => simp only [*]
    all_goals rfl

/-- What a write to any index but `CMD` writes does not depend on the read data. -/
theorem busWrite_drive {a : RegIndex} (h : a ≠ 0x40#8) (v d : Word) (s : State) :
    busWrite (s.drive d) a v = (busWrite s a v).drive d := by
  unfold busWrite
  split
  · cases wheelOfIndex a <;> rfl
  · split
    case h_1 command => exact absurd (BitVec.eq_of_toNat_eq command) h
    all_goals rfl

/-- Settles O42: the second write finds the first one's registers, and no read data that it reads. -/
theorem writesAreIdempotent : Obligations.WritesAreIdempotent := by
  intro a v s h
  refine ⟨(busWrite s a v).quiet, exec_decodeWrite a v s, ?_⟩
  have again : busWrite (busWrite s a v).quiet a v = (busWrite s a v).quiet := by
    rw [State.quiet, busWrite_drive h, busWrite_busWrite h]
  rw [exec_decodeWrite, again]
  rfl

end Sys2Proof.Machine
end

section
/-! Every bit of state is readable (20_memory.md R62). -/

namespace Sys2Proof.Machine

open Sys2Proof

/-- The index of an offset in a wheel's block (30_encoding.md R86). -/
def wheelIndex : Wheel → Nat → RegIndex
  | .left, o => BitVec.ofNat 8 o
  | .right, o => BitVec.ofNat 8 (0x20 + o)

theorem busRead_wheelIndex (s : State) (w : Wheel) {o : Nat} (h : o < 0x20) :
    busRead s (wheelIndex w o) = (s.wheel w).readAt o := by
  have place : ∀ o < 0x20, (wheelIndex w o).toNat < 0x40 ∧ wheelOfIndex (wheelIndex w o) = w ∧
      (wheelIndex w o).toNat % 0x20 = o := by
    cases w <;> decide
  obtain ⟨below, wheel, offset⟩ := place o h
  rw [busRead_wheel s below, wheel, offset]

@[simp] theorem Channel.setWidth_motDuty (c : Channel) : c.motDuty.setWidth 17 = c.motMag := by
  simp [Channel.motDuty]

/-- Channels that read the same at every offset are the same: the stored levels stand in `QSTAT`, the mode, the motor
command and the strobe in `PSTAT`, the magnitude in `MOT_DUTY`. -/
theorem Channel.eq_of_readAt_eq {c d : Channel} (h : ∀ o < 0x20, c.readAt o = d.readAt o) : c = d := by
  have qstat : c.qstat = d.qstat := h 0x01 (by decide)
  have pstat : c.pstat = d.pstat := h 0x11 (by decide)
  have motDuty : c.motDuty = d.motDuty := h 0x12 (by decide)
  obtain ⟨cA, cB⟩ := c.getLsbD_qstat
  obtain ⟨dA, dB⟩ := d.getLsbD_qstat
  obtain ⟨cMode, cCmd, cStb⟩ := c.getLsbD_pstat
  obtain ⟨dMode, dCmd, dStb⟩ := d.getLsbD_pstat
  have aQ : c.aQ = d.aQ := by rw [← cA, ← dA, qstat]
  have bQ : c.bQ = d.bQ := by rw [← cB, ← dB, qstat]
  have mode : c.mode = d.mode := by rw [← cMode, ← dMode, pstat]
  have motCmd : c.motCmd = d.motCmd := by rw [← cCmd, ← dCmd, pstat]
  have motStb : c.motStb = d.motStb := by rw [← cStb, ← dStb, pstat]
  have motMag : c.motMag = d.motMag := by rw [← c.setWidth_motDuty, ← d.setWidth_motDuty, motDuty]
  rw [Channel.mk.injEq]
  exact ⟨aQ, bQ, h 0x00 (by decide), h 0x02 (by decide), h 0x03 (by decide), h 0x04 (by decide),
    h 0x05 (by decide), h 0x06 (by decide), h 0x07 (by decide), h 0x08 (by decide),
    h 0x09 (by decide), h 0x0A (by decide), h 0x0B (by decide), h 0x0C (by decide),
    h 0x0D (by decide), h 0x0E (by decide), h 0x0F (by decide), h 0x10 (by decide),
    mode, motCmd, motMag, motStb⟩

/-- Settles O43: a wheel's block reads the whole channel, and the other indices the global registers. -/
theorem everyBitOfStateIsReadable : Obligations.EveryBitOfStateIsReadable := by
  intro s t h
  have wheel (w : Wheel) : s.wheel w = t.wheel w := Channel.eq_of_readAt_eq fun o ho => by
    rw [← busRead_wheelIndex s w ho, h, busRead_wheelIndex t w ho]
  have gstat : s.gstat = t.gstat := h 0x46#8
  refine ⟨wheel .left, wheel .right, h 0x41#8, h 0x42#8, h 0x43#8, h 0x44#8, h 0x45#8, ?_⟩
  have bit : ∀ e : Bool, ((BitVec.ofBool e).setWidth 32).getLsbD 0 = e := by decide
  rw [← bit s.en, ← bit t.en]
  exact congrArg (·.getLsbD 0) gstat

end Sys2Proof.Machine
end

section
/-! Which operation a code selects: the decoder's branches, the ignored bits (30_encoding.md R81, R83), and decoding
against encoding (R88). -/

namespace Sys2Proof.Machine

open Sys2Proof

/-! The branches of the decoder. -/

theorem decodeBus_of_no_request {p : Input} (req : p.busReq = false) : decodeBus p = .noBus := by
  simp [decodeBus, req]

theorem decodeBus_of_read {p : Input} (req : p.busReq = true) (we : p.busWe = false) :
    decodeBus p = decodeRead p.busAddr := by
  simp [decodeBus, req, we]

theorem decodeBus_of_write {p : Input} (req : p.busReq = true) (we : p.busWe = true) :
    decodeBus p = decodeWrite p.busAddr p.busWdata := by
  simp [decodeBus, req, we]

/-- A write to `CMD` selects by the low byte of its data (30_encoding.md R83). -/
theorem decodeWrite_cmd (v : Word) : decodeWrite 0x40#8 v = decodeCommand (v.setWidth 8) := rfl

theorem decodeCycle_of_reset {p : Input} (hr : p.rst = true) (q0 q1 : BitVec 4) :
    decodeCycle q0 q1 p = [.reset p.encA0 p.encB0 p.encA1 p.encB1] := by
  simp [decodeCycle, hr]

theorem decodeCycle_of_no_reset {p : Input} (hr : p.rst = false) (q0 q1 : BitVec 4) :
    decodeCycle q0 q1 p =
      decodeTransition .left q0 :: decodeTransition .right q1 :: decodeBus p :: tickOperations p := by
  simp [decodeCycle, hr, tickOperations, sampleOperations, controlOperations]

theorem decodeInput_of_reset {p : Input} (hr : p.rst = true) :
    decodeInput p = .reset p.encA0 p.encB0 p.encA1 p.encB1 := by
  simp [decodeInput, hr]

theorem decodeInput_of_request {p : Input} (hr : p.rst = false) (req : p.busReq = true) :
    decodeInput p = decodeBus p := by
  simp [decodeInput, hr, req]

/-- Without a request, a word is named by its first tick (log 6). -/
theorem decodeInput_of_no_request {p : Input} (hr : p.rst = false) (req : p.busReq = false) :
    decodeInput p = (tickOperations p).headD .noBus := by
  simp only [decodeInput, hr, req, tickOperations, sampleOperations, controlOperations, Bool.false_eq_true, if_false]
  split_ifs <;> rfl

/-- Settles O3: each branch of the decoder reads none of the bits that its rows ignore. -/
theorem ignoredBitsSelectNothing : Obligations.IgnoredBitsSelectNothing := by
  intro p q
  refine ⟨fun hp hq => ?_, fun hp hq wp wq addr => ?_, fun hp hq wp wq ap aq low => ?_,
    fun hp hq a0 b0 a1 b1 c0 c1 d0 d1 => ?_⟩
  · rw [decodeBus_of_no_request hp, decodeBus_of_no_request hq]
  · rw [decodeBus_of_read hp wp, decodeBus_of_read hq wq, addr]
  · rw [decodeBus_of_write hp wp, decodeBus_of_write hq wq, ap, aq, decodeWrite_cmd, decodeWrite_cmd, low]
  · rw [decodeCycle_of_reset hp, decodeCycle_of_reset hq, a0, b0, a1, b1]

/-! Decoding what the encoder writes. -/

theorem decodeRead_ne_noBus (a : RegIndex) : decodeRead a ≠ .noBus := by
  unfold decodeRead
  split <;> nofun

theorem decodeCommand_ne_noBus (c : BitVec 8) : decodeCommand c ≠ .noBus := by
  unfold decodeCommand
  split <;> nofun

theorem decodeWrite_ne_noBus (a : RegIndex) (v : Word) : decodeWrite a v ≠ .noBus := by
  have command := decodeCommand_ne_noBus (v.setWidth 8)
  unfold decodeWrite
  split
  case h_18 => exact command
  all_goals nofun

/-- Only a cycle without a request has no bus operation (30_encoding.md R81). -/
theorem decodeBus_eq_noBus_iff {p : Input} : decodeBus p = .noBus ↔ p.busReq = false := by
  refine ⟨fun h => ?_, decodeBus_of_no_request⟩
  unfold decodeBus at h
  split_ifs at h with req
  · exact absurd h (decodeWrite_ne_noBus _ _)
  · exact absurd h (decodeRead_ne_noBus _)
  · simpa using req

/-- An input that runs one operation beside the transitions is named by it (log 6). -/
theorem RunsAlone.decodeInput_eq {i : Instr} {p : Input} (h : RunsAlone i p) : decodeInput p = i := by
  obtain ⟨hr, hbus, hticks⟩ | ⟨hr, hbus, hticks⟩ := h
  · cases req : p.busReq with
    | true => rw [decodeInput_of_request hr req, hbus]
    | false =>
      rw [decodeInput_of_no_request hr req, hticks, ← hbus, decodeBus_of_no_request req]
      rfl
  · rw [decodeInput_of_no_request hr (decodeBus_eq_noBus_iff.1 hbus), hticks]
    rfl

theorem decode_encode_reset (a0 b0 a1 b1 : Bool) :
    decode (encode (.reset a0 b0 a1 b1)) = .reset a0 b0 a1 b1 := by
  rw [encode, decode_input_toWord, decodeInput_of_reset rfl]

/-- Settles O1: a transition code is the code of the operation it decodes to, a reset word keeps its four pins, and any
other word runs its operation alone, which names it. -/
theorem decodeEncodeAgree : Obligations.DecodeEncodeAgree := by
  intro i wf
  by_cases reset : ∃ a0 b0 a1 b1, i = .reset a0 b0 a1 b1
  · obtain ⟨a0, b0, a1, b1, rfl⟩ := reset
    exact decode_encode_reset a0 b0 a1 b1
  · cases hi : encode i with
    | qt w c => rw [decode_qt, ← eq_decodeTransition_of_encode hi]
    | input j => exact (runsAlone_of_encode wf (by simpa using reset) hi).decodeInput_eq

/-! What the decoder answers is well-formed. -/

theorem encode_decodeTransition (w : Wheel) (c : BitVec 4) : encode (decodeTransition w c) = .qt w c := by
  revert c
  apply forall_of_forall_ofNat
  intro k hk
  interval_cases k <;> rfl

theorem decodeTransition_wellFormed (w : Wheel) (c : BitVec 4) : (decodeTransition w c).WellFormed := by
  unfold decodeTransition
  split <;> rfl

/-- The catch-all row of the reads is left with the indices that read 0. -/
theorem decodeRead_wellFormed (a : RegIndex) : (decodeRead a).WellFormed := by
  revert a
  decide

theorem decodeCommand_wellFormed (c : BitVec 8) : (decodeCommand c).WellFormed := by
  revert c
  decide

/-- The read-only and unmapped indices are those that no row of the writes names (20_memory.md R68). -/
theorem writeIgnored_iff {a : RegIndex} : writeIgnored a = true ↔
    a.toNat ∉ [0x05, 0x06, 0x07, 0x0D, 0x0E, 0x0F, 0x10, 0x25, 0x26, 0x27, 0x2D, 0x2E, 0x2F, 0x30, 0x40, 0x41, 0x42,
      0x43] := by
  revert a
  decide

/-- The catch-all row of the writes is left with the read-only and unmapped indices. -/
theorem decodeWrite_wellFormed (a : RegIndex) (v : Word) : (decodeWrite a v).WellFormed := by
  have command := decodeCommand_wellFormed (v.setWidth 8)
  unfold decodeWrite
  split
  case h_18 => exact command
  case h_19 => exact writeIgnored_iff.2 (by simp_all)
  all_goals rfl

theorem decodeBus_wellFormed (p : Input) : (decodeBus p).WellFormed := by
  unfold decodeBus
  split_ifs
  · exact decodeWrite_wellFormed p.busAddr p.busWdata
  · exact decodeRead_wellFormed p.busAddr
  · rfl

theorem tickOperations_wellFormed {p : Input} {i : Instr} (h : i ∈ tickOperations p) : i.WellFormed := by
  simp only [tickOperations, sampleOperations, controlOperations, List.mem_append, List.mem_ite_nil_right,
    List.mem_singleton] at h
  obtain (⟨-, rfl⟩ | ⟨-, rfl⟩) | ⟨-, rfl⟩ | ⟨-, rfl⟩ := h <;> rfl

/-- All operations of a cycle are well-formed (20_memory.md R70). -/
theorem decodeCycle_wellFormed {q0 q1 : BitVec 4} {p : Input} {i : Instr} (h : i ∈ decodeCycle q0 q1 p) :
    i.WellFormed := by
  cases hr : p.rst with
  | true =>
    rw [decodeCycle_of_reset hr, List.mem_singleton] at h
    subst h
    rfl
  | false =>
    simp only [decodeCycle_of_no_reset hr, List.mem_cons] at h
    obtain rfl | rfl | rfl | tick := h
    · exact decodeTransition_wellFormed .left q0
    · exact decodeTransition_wellFormed .right q1
    · exact decodeBus_wellFormed p
    · exact tickOperations_wellFormed tick

theorem decodeInput_wellFormed (p : Input) : (decodeInput p).WellFormed := by
  unfold decodeInput
  split_ifs
  · rfl
  · exact decodeBus_wellFormed p
  all_goals rfl

/-- Settles O2: a transition code is the code of what it decodes to, and each catch-all row is reached with its own
operands only. -/
theorem everyCodeDecodesWellFormed : Obligations.EveryCodeDecodesWellFormed := by
  refine ⟨fun c => ?_, fun q0 q1 p i h => decodeCycle_wellFormed h, encode_decodeTransition⟩
  cases c with
  | qt w c => exact decodeTransition_wellFormed w c
  | input i => exact decodeInput_wellFormed (Input.ofWord i)

/-! Words of the spec. -/

/-- Settles O4: the decoder evaluates to the listed operation on each of the words. -/
theorem specWordsDecode : Obligations.SpecWordsDecode := by
  unfold Obligations.SpecWordsDecode
  decide

end Sys2Proof.Machine
end

section
/-! Cycles without a read (30_encoding.md R81), and writes without an effect (R89, R90). -/

namespace Sys2Proof.Machine

open Sys2Proof

theorem phaseBus_of_no_request {p : Input} (req : p.busReq = false) (s : State) : phaseBus p s = s.quiet := by
  simp [phaseBus, req, State.quiet]

/-- Phase 2 of a cycle without a read drives 0. -/
theorem phaseBus_busRdata_of_no_read {p : Input} (noRead : p.busReq = false ∨ p.busWe = true) (s : State) :
    (phaseBus p s).busRdata = 0 := by
  cases req : p.busReq with
  | true => rw [phaseBus_of_write req (by simpa [req] using noRead), State.quiet_busRdata]
  | false => rw [phaseBus_of_no_request req, State.quiet_busRdata]

/-- Settles O12: `RESET` writes 0 to the read data, and so does phase 2 unless it reads. -/
theorem withoutAReadTheDataIsZero : Obligations.WithoutAReadTheDataIsZero := by
  intro s t h p hp noRead
  obtain rfl := step_inv_phases hp h
  show (cycleByPhases p s.taken).busRdata = 0
  cases hr : p.rst with
  | true => rw [cycleByPhases, hr, if_pos rfl, State.resetTo_busRdata]
  | false => rw [cycleByPhases_busRdata hr, phaseBus_busRdata_of_no_read (by simpa [hr] using noRead)]

/-- Settles O41: the catch-all rows are what is left to these operands, and none of them writes a register. -/
theorem ignoredWritesAndReservedCommands : Obligations.IgnoredWritesAndReservedCommands := by
  refine ⟨fun a v s ignored => ⟨decodeWrite_of_writeIgnored ignored v, rfl⟩, fun c s reserved => ⟨?_, rfl⟩,
    fun s => ⟨rfl, rfl⟩, fun s => rfl⟩
  exact decodeCommand_of_reservedCode (decide_eq_true reserved)

end Sys2Proof.Machine
end

section
/-! The decoder's operations, code by code (40_qdec.md R103 to R113). -/

namespace Sys2Proof.Machine

open Sys2Proof

theorem edge_one (w : Wheel) (a b : Bool) (s : State) :
    edge w 1 a b s = s.setWheel w { s.wheel w with
      count := toReg (wrap32 (s32 (s.wheel w).count + 1)), aQ := a, bQ := b } := rfl

theorem edge_neg_one (w : Wheel) (a b : Bool) (s : State) :
    edge w (-1) a b s = s.setWheel w { s.wheel w with
      count := toReg (wrap32 (s32 (s.wheel w).count - 1)), aQ := a, bQ := b } := by
  rw [edge, Channel.transition, ← sub_eq_add_neg]

/-- Settles O13: the operation of each row is an edge of the row's count change and new levels. -/
theorem singleEdgesCountByTheTable : Obligations.SingleEdgesCountByTheTable :=
  ⟨fun w s => ⟨rfl, congrArg Host.Outcome.next (edge_one w true false s)⟩,
    fun w s => ⟨rfl, congrArg Host.Outcome.next (edge_neg_one w true true s)⟩,
    fun w s => ⟨rfl, congrArg Host.Outcome.next (edge_neg_one w false false s)⟩,
    fun w s => ⟨rfl, congrArg Host.Outcome.next (edge_one w false true s)⟩,
    fun w s => ⟨rfl, congrArg Host.Outcome.next (edge_neg_one w false true s)⟩,
    fun w s => ⟨rfl, congrArg Host.Outcome.next (edge_one w true true s)⟩,
    fun w s => ⟨rfl, congrArg Host.Outcome.next (edge_one w false false s)⟩,
    fun w s => ⟨rfl, congrArg Host.Outcome.next (edge_neg_one w true false s)⟩⟩

/-- The operation of a code whose new levels are the stored ones changes nothing (40_qdec.md R112). -/
theorem exec_of_hold {w : Wheel} {c : BitVec 4} {s : State} (holdA : c.getLsbD 3 = c.getLsbD 1)
    (holdB : c.getLsbD 2 = c.getLsbD 0) (hA : (s.wheel w).aQ = c.getLsbD 3) (hB : (s.wheel w).bQ = c.getLsbD 2) :
    exec (decodeTransition w c) s = .next s := by
  rw [exec_decodeTransition, ← quadTransition_of_code hA hB, quadTransition_of_hold (hA.trans holdA) (hB.trans holdB)]

/-- Settles O14: each of the four codes holds the levels stored. -/
theorem noEdgeChangesNothing : Obligations.NoEdgeChangesNothing :=
  ⟨fun w _ hA hB => ⟨rfl, exec_of_hold (w := w) (c := 0b0000#4) rfl rfl hA hB⟩,
    fun w _ hA hB => ⟨rfl, exec_of_hold (w := w) (c := 0b0101#4) rfl rfl hA hB⟩,
    fun w _ hA hB => ⟨rfl, exec_of_hold (w := w) (c := 0b1010#4) rfl rfl hA hB⟩,
    fun w _ hA hB => ⟨rfl, exec_of_hold (w := w) (c := 0b1111#4) rfl rfl hA hB⟩⟩

theorem otherWheel_ne (w : Wheel) : otherWheel w ≠ w := by cases w <;> nofun

/-- A double transition leaves the global registers and the read data. -/
theorem doubleEdge_frame (w : Wheel) (a b : Bool) (s : State) :
    { doubleEdge w a b s with left := s.left, right := s.right, env := s.env } = s := by
  simp [doubleEdge, edge]

/-- What an operation that is a double transition answers (40_qdec.md R111). -/
theorem exec_of_doubleEdge {i : Instr} {w : Wheel} {a b : Bool} {s : State}
    (h : exec i s = .next (doubleEdge w a b s)) :
    ∃ t d, exec i s = .next t ∧ (d = -2 ∨ d = 0 ∨ d = 2) ∧
      t.wheel w = { s.wheel w with count := toReg (wrap32 (s32 (s.wheel w).count + d)), aQ := a, bQ := b } ∧
      t.wheel (otherWheel w) = s.wheel (otherWheel w) ∧ t.draws w = s.draws w + 1 ∧
      t.draws (otherWheel w) = s.draws (otherWheel w) ∧ t.env.inputs = s.env.inputs ∧ t.env.cycle = s.env.cycle ∧
      { t with left := s.left, right := s.right, env := s.env } = s := by
  refine ⟨_, (Config.qdblDraw w (s.draws w)).toInt, h, Draw.toInt_cases _, doubleEdge_wheel w a b s,
    doubleEdge_wheel_of_ne (otherWheel_ne w) a b s, ?_, ?_, ?_, ?_, doubleEdge_frame w a b s⟩
  · simp [doubleEdge, edge]
  · simp [doubleEdge, edge, State.draws_useDraw_of_ne _ (otherWheel_ne w)]
  · simp [doubleEdge, edge]
  · simp [doubleEdge, edge]

/-- Settles O15: the operation of each of the four codes is a double transition to the code's new levels. -/
theorem doubleEdgeMovesByADraw : Obligations.DoubleEdgeMovesByADraw :=
  fun _ _ => ⟨⟨rfl, exec_of_doubleEdge rfl⟩, ⟨rfl, exec_of_doubleEdge rfl⟩, ⟨rfl, exec_of_doubleEdge rfl⟩,
    ⟨rfl, exec_of_doubleEdge rfl⟩⟩

/-- Sampled levels select the operation whose effect is `QTrans` (40_qdec.md R102). -/
theorem exec_decodeTransition_code (w : Wheel) (a b : Bool) (s : State) :
    exec (decodeTransition w ((s.wheel w).code a b)) s = .next (quadTransition w a b s) := by
  rw [exec_decodeTransition, codeTransition_code]

/-- `QTrans` moves its wheel's count by the code's change, a draw deciding it where the code is double. -/
theorem quadTransition_wheel_draw (w : Wheel) (a b : Bool) (s : State) :
    (quadTransition w a b s).wheel w =
      (s.wheel w).transition (countChange ((s.wheel w).code a b) (Config.qdblDraw w (s.draws w))) a b := by
  simp only [quadTransition]
  split <;> simp

/-- Settles O16: the operation is `QTrans`, which moves the channel by the code's change to the sampled levels. -/
theorem transitionIsQTrans : Obligations.TransitionIsQTrans := by
  intro w a b s
  have moved := quadTransition_wheel_draw w a b s
  exact ⟨exec_decodeTransition_code w a b s, by rw [moved]; rfl, by rw [moved]; rfl, _, moved⟩

/-- Settles O19: the two command codes are those of `QRST` in `ExecCmd`. -/
theorem qrstZeroesTheCountAlone : Obligations.QrstZeroesTheCountAlone :=
  ⟨rfl, rfl, fun s => ⟨exec_decodeCommand 0x05#8 s, exec_decodeCommand 0x06#8 s⟩⟩

end Sys2Proof.Machine
end

section
/-! Paths of pin levels that change one channel at a time (40_qdec.md R100, R114, R115). -/

namespace Sys2Proof.Machine

open Sys2Proof

/-! One transition along a path. -/

/-- The stored levels `(A, B)`. -/
def Channel.levels (c : Channel) : Bool × Bool := (c.aQ, c.bQ)

/-- The count change from the levels `l` to the levels `m`, where no draw decides it. -/
def levelChange (l m : Bool × Bool) : Int := countChange (transitionCode l.1 l.2 m.1 m.2) .zero

/-- The way back undoes a transition's count change. -/
theorem levelChange_swap : ∀ l m : Bool × Bool, levelChange m l = -levelChange l m := by
  decide

/-- The draw matters only where both channels change (40_qdec.md R111). -/
theorem countChange_of_single {l m : Bool × Bool} (single : l.1 = m.1 ∨ l.2 = m.2) (q : Draw) :
    countChange (transitionCode l.1 l.2 m.1 m.2) q = levelChange l m := by
  revert l m
  cases q <;> decide

theorem isDouble_transitionCode (l m : Bool × Bool) :
    isDouble (transitionCode l.1 l.2 m.1 m.2) = (l.1 != m.1 && l.2 != m.2) := by
  revert l m
  decide

/-- A transition that changes at most one channel is an edge, and takes no draw. -/
theorem quadTransition_of_single {w : Wheel} {l m : Bool × Bool} {s : State} (hl : (s.wheel w).levels = l)
    (single : l.1 = m.1 ∨ l.2 = m.2) : quadTransition w m.1 m.2 s = edge w (levelChange l m) m.1 m.2 s := by
  have double : isDouble (transitionCode l.1 l.2 m.1 m.2) = false := by
    rw [isDouble_transitionCode]
    obtain h | h := single <;> simp [h]
  have code : (s.wheel w).code m.1 m.2 = transitionCode l.1 l.2 m.1 m.2 := hl ▸ rfl
  simp only [quadTransition, code, double, countChange_of_single single, edge, Bool.false_eq_true, if_false]

theorem edge_levels (w : Wheel) (d : Int) (m : Bool × Bool) (s : State) :
    ((edge w d m.1 m.2 s).wheel w).levels = m := by
  rw [edge_wheel]
  rfl

/-- Two edges of one wheel are one edge: the count changes add up and the second's levels stand. -/
theorem edge_edge (w : Wheel) (d e : Int) (a b a' b' : Bool) (s : State) :
    edge w e a' b' (edge w d a b s) = edge w (d + e) a' b' s := by
  rw [edge, edge_wheel, Channel.transition_transition, edge, State.setWheel_setWheel, edge]

/-- An edge that holds the levels stored moves the count alone. -/
theorem edge_of_hold {w : Wheel} {l : Bool × Bool} {s : State} (hl : (s.wheel w).levels = l) (d : Int) :
    edge w d l.1 l.2 s = s.setWheel w { s.wheel w with count := toReg (wrap32 (s32 (s.wheel w).count + d)) } := by
  subst hl
  rfl

theorem edge_zero {w : Wheel} {l : Bool × Bool} {s : State} (hl : (s.wheel w).levels = l) :
    edge w 0 l.1 l.2 s = s := by
  subst hl
  exact (congrArg (s.setWheel w) (Channel.transition_zero _)).trans (State.setWheel_wheel s w)

/-! A path. -/

/-- The state after `QTrans` of each listed pair of levels. -/
def sampled (w : Wheel) (path : List (Bool × Bool)) (s : State) : State :=
  path.foldl (fun t l => quadTransition w l.1 l.2 t) s

theorem sampled_append (w : Wheel) (xs ys : List (Bool × Bool)) (s : State) :
    sampled w (xs ++ ys) s = sampled w ys (sampled w xs s) :=
  List.foldl_append

theorem sampleLevels_eq_sampled (w : Wheel) (path : List (Bool × Bool)) (s : State) :
    sampleLevels w path s = .next (sampled w path s) := by
  induction path generalizing s with
  | nil => rfl
  | cons l rest ih =>
    rw [sampleLevels, exec_decodeTransition_code]
    exact ih _

/-- The count change along a path from the levels `l`. -/
def pathChange : Bool × Bool → List (Bool × Bool) → Int
  | _, [] => 0
  | l, m :: rest => levelChange l m + pathChange m rest

/-- A path that changes one channel at a time is one edge, from its start to its end. -/
theorem sampled_eq_edge {w : Wheel} {path : List (Bool × Bool)} {l : Bool × Bool} {s : State}
    (hl : (s.wheel w).levels = l) (h : OneChannelAtATime l path) :
    sampled w path s = edge w (pathChange l path) (path.getLastD l).1 (path.getLastD l).2 s := by
  induction path generalizing l s with
  | nil => exact (edge_zero hl).symm
  | cons m rest ih =>
    obtain ⟨one, hrest⟩ := h
    have first : quadTransition w m.1 m.2 s = edge w (levelChange l m) m.1 m.2 s :=
      quadTransition_of_single hl (one.symm.imp And.left And.right)
    calc sampled w (m :: rest) s
        = sampled w rest (edge w (levelChange l m) m.1 m.2 s) := by rw [← first]; rfl
      _ = edge w (levelChange l m + pathChange m rest) (rest.getLastD m).1 (rest.getLastD m).2 s := by
        rw [ih (edge_levels w _ m s) hrest, edge_edge]
      _ = _ := by rw [pathChange, List.getLastD_cons]

/-! The direction convention (40_qdec.md R114). -/

/-- What a path's operations answer, from its count change and its end. -/
theorem sampleLevels_eq_edge {w : Wheel} {path : List (Bool × Bool)} {l m : Bool × Bool} {d : Int} {s : State}
    (hl : (s.wheel w).levels = l) (h : OneChannelAtATime l path) (change : pathChange l path = d)
    (last : path.getLastD l = m) : sampleLevels w path s = .next (edge w d m.1 m.2 s) := by
  rw [sampleLevels_eq_sampled, sampled_eq_edge hl h, change, last]

/-- A step along the forward cycle of levels changes one channel and counts up. -/
theorem forward_step (l : Bool × Bool) :
    OneChannelAtATime l [(!l.2, l.1)] ∧ pathChange l [(!l.2, l.1)] = 1 := by
  obtain ⟨a, b⟩ := l
  cases a <;> cases b <;> exact ⟨by simp [OneChannelAtATime], rfl⟩

/-- A step along the reverse cycle changes one channel and counts down. -/
theorem reverse_step (l : Bool × Bool) :
    OneChannelAtATime l [(l.2, !l.1)] ∧ pathChange l [(l.2, !l.1)] = -1 := by
  obtain ⟨a, b⟩ := l
  cases a <;> cases b <;> exact ⟨by simp [OneChannelAtATime], rfl⟩

/-- Settles O17: each of the paths changes one channel at a time, so that it is one edge of its count change. -/
theorem forwardAndReverseCycles : Obligations.ForwardAndReverseCycles := by
  intro w s
  refine ⟨fun hA hB => ?_, ?_, ?_⟩
  · have low : (s.wheel w).levels = (false, false) := by rw [Channel.levels, hA, hB]
    rw [sub_eq_add_neg, ← edge_of_hold low 4, ← edge_of_hold low (-4)]
    exact ⟨sampleLevels_eq_edge low (by simp [OneChannelAtATime]) (by decide) rfl,
      sampleLevels_eq_edge low (by simp [OneChannelAtATime]) (by decide) rfl⟩
  · obtain ⟨one, change⟩ := forward_step (s.wheel w).levels
    exact sampleLevels_eq_edge rfl one change rfl
  · obtain ⟨one, change⟩ := reverse_step (s.wheel w).levels
    rw [sub_eq_add_neg]
    exact sampleLevels_eq_edge rfl one change rfl

/-! Reversibility (40_qdec.md R115 (b)). -/

/-- The last step of the way back is to the start. -/
theorem wayBack_cons (l m : Bool × Bool) (rest : List (Bool × Bool)) :
    wayBack l (m :: rest) = wayBack m rest ++ [l] := by
  have start : ((m :: rest).reverse ++ [l]).tail = (m :: rest).reverse.tail ++ [l] :=
    List.tail_append_of_ne_nil (by simp)
  rw [wayBack, List.reverse_cons, start, wayBack]

/-- One edge there and back restores the state. -/
theorem sampled_there_and_back {w : Wheel} {l m : Bool × Bool} {s : State} (hl : (s.wheel w).levels = l)
    (one : (l.1 ≠ m.1 ∧ l.2 = m.2) ∨ (l.1 = m.1 ∧ l.2 ≠ m.2)) : sampled w [m, l] s = s := by
  have back : (m.1 ≠ l.1 ∧ m.2 = l.2) ∨ (m.1 = l.1 ∧ m.2 ≠ l.2) :=
    one.imp (fun ⟨hA, hB⟩ => ⟨hA.symm, hB.symm⟩) (fun ⟨hA, hB⟩ => ⟨hA.symm, hB.symm⟩)
  have cancel : pathChange l [m, l] = 0 := by
    simp only [pathChange, levelChange_swap l m]
    omega
  have path : OneChannelAtATime l [m, l] := ⟨one, back, trivial⟩
  rw [sampled_eq_edge hl path, cancel]
  exact edge_zero hl

/-- A path and its way back nest: between its first step and that step's return lies the rest with its own way back. -/
theorem sampled_wayBack {w : Wheel} {path : List (Bool × Bool)} {l : Bool × Bool} {s : State}
    (hl : (s.wheel w).levels = l) (h : OneChannelAtATime l path) : sampled w (path ++ wayBack l path) s = s := by
  induction path generalizing l s with
  | nil => rfl
  | cons m rest ih =>
    obtain ⟨one, hrest⟩ := h
    have there : ((quadTransition w m.1 m.2 s).wheel w).levels = m := by
      rw [quadTransition_wheel_draw]
      rfl
    calc sampled w (m :: rest ++ wayBack l (m :: rest)) s
        = sampled w [l] (sampled w (rest ++ wayBack m rest) (quadTransition w m.1 m.2 s)) := by
          rw [wayBack_cons, ← sampled_append, List.append_assoc]
          rfl
      _ = sampled w [l] (quadTransition w m.1 m.2 s) := by rw [ih there hrest]
      _ = s := sampled_there_and_back hl one

/-- Settles O18: each step of the way back undoes the step of the path it answers, the last one first. -/
theorem decoderIsReversible : Obligations.DecoderIsReversible := by
  intro w s path h
  rw [sampleLevels_eq_sampled]
  exact congrArg Host.Outcome.next (sampled_wayBack rfl h)

end Sys2Proof.Machine
end

section
/-! The velocity estimator: what a sample tick stores (41_vest.md R120, R122). -/

namespace Sys2Proof.Machine

open Sys2Proof

/-! The two sampled velocities. -/

/-- The delta of the signed readings is the signed reading of the patterns' difference, so that the counter's wrap
does not show in it (40_qdec.md R116). -/
theorem Channel.delta_eq_s32_sub (c : Channel) : c.delta = s32 (c.count - c.prevCount) :=
  BitVec.toInt_sub.symm

/-- The delta is the true number of counts when that fits the signed range (41_vest.md R122 (c)). -/
theorem Channel.delta_of_count {c : Channel} {n : Int} (lo : -2 ^ 31 ≤ n) (hi : n < 2 ^ 31)
    (h : c.count = c.prevCount + toReg n) : c.delta = n := by
  have moved : c.count - c.prevCount = toReg n := by rw [h, add_sub_cancel_left]
  rw [c.delta_eq_s32_sub, moved, s32_toReg lo (by omega)]

theorem Channel.sampledAng_eq_zero {c : Channel} (h : c.delta = 0 ∨ c.kAng = 0) : c.sampledAng = 0 := by
  have product : c.delta * s32 c.kAng = 0 := by simpa using h
  rw [Channel.sampledAng, product, shr_zero, sat32_zero]

theorem Channel.sampledLin_eq_zero {c : Channel} (h : c.sampledAng = 0 ∨ c.radius = 0) : c.sampledLin = 0 := by
  have product : c.sampledAng * s32 c.radius = 0 := by simpa using h
  rw [Channel.sampledLin, product, shr_zero, sat32_zero]

/-! The sample. -/

/-- The sample tick in the spec's words, with the angular velocity named once for both of its uses. -/
theorem Channel.sample_eq {c : Channel} {ang : Int}
    (h : ang = sat32 (shr (wrap32 (s32 c.count - s32 c.prevCount) * s32 c.kAng) 8)) :
    c.sample = { c with
      prevCount := c.count, angVel := toReg ang, linVel := toReg (sat32 (shr (ang * s32 c.radius) 24)) } := by
  subst h
  rfl

/-- What a sample stores after `n` counts, with its zero cases (41_vest.md R122 (a), (c), (e)). -/
theorem Channel.sample_velocities {c : Channel} {n : Int} (lo : -2 ^ 31 ≤ n) (hi : n < 2 ^ 31)
    (h : c.count = c.prevCount + toReg n) :
    c.sample.angVel = toReg (sat32 (shr (n * s32 c.kAng) 8)) ∧
    ((n = 0 ∨ c.kAng = 0) → c.sample.angVel = 0 ∧ c.sample.linVel = 0) ∧
    (c.radius = 0 → c.sample.linVel = 0) := by
  have counts : c.delta = n := Channel.delta_of_count lo hi h
  refine ⟨?_, fun zero => ?_, fun zero => ?_⟩
  · rw [Channel.sample_angVel, Channel.sampledAng, counts]
  · have ang : c.sampledAng = 0 := Channel.sampledAng_eq_zero (counts.symm ▸ zero)
    have lin : c.sampledLin = 0 := Channel.sampledLin_eq_zero (.inl ang)
    rw [Channel.sample_angVel, Channel.sample_linVel, ang, lin]
    exact ⟨rfl, rfl⟩
  · have lin : c.sampledLin = 0 := Channel.sampledLin_eq_zero (.inr zero)
    rw [Channel.sample_linVel, lin]
    rfl

/-! The operations. -/

theorem exec_stick0 (s : State) : exec .stick0 s = .next { s with left := s.left.sample } := rfl

theorem exec_stick1 (s : State) : exec .stick1 s = .next { s with right := s.right.sample } := rfl

/-- Settles O21: `STICK w` samples its wheel's channel, whose delta is the true number of counts. -/
theorem countWrapDoesNotDisturbTheVelocity : Obligations.CountWrapDoesNotDisturbTheVelocity := by
  intro s t n lo hi
  constructor
  · intro h run
    cases run
    exact Channel.sample_velocities lo hi h
  · intro h run
    cases run
    exact Channel.sample_velocities lo hi h

/-- Settles O20: `STICK w` replaces its wheel's channel by the sampled one and leaves the rest of the state. -/
theorem stickSamplesTheVelocity : Obligations.StickSamplesTheVelocity := by
  intro s
  constructor
  · intro ang h
    rw [exec_stick0, Channel.sample_eq h]
  · intro ang h
    rw [exec_stick1, Channel.sample_eq h]

end Sys2Proof.Machine
end

section
/-! The regulator's operations, named by the wheel (42_pid.md R130, R138). -/

namespace Sys2Proof.Machine

open Sys2Proof

/-- Driving 0 on the read data leaves both wheels. -/
@[simp] theorem State.wheel_quiet (s : State) (w : Wheel) : s.quiet.wheel w = s.wheel w :=
  s.wheel_drive w 0

theorem exec_ctickOf (w : Wheel) (s : State) :
    exec (ctickOf w) s = .next (s.setWheel w (s.wheel w).control) := by
  cases w <;> rfl

theorem exec_wrSetpointOf (w : Wheel) (v : Word) (s : State) :
    exec (wrSetpointOf w v) s = .next (s.setWheel w ((s.wheel w).setSetpoint v)).quiet := by
  cases w <;> rfl

theorem exec_wrFCOf (w : Wheel) (v : Word) (s : State) :
    exec (wrFCOf w v) s = .next (s.setWheel w { s.wheel w with fC := v }).quiet := by
  cases w <;> rfl

/-- An operation and then a control tick of wheel `w`: the tick finds the channel that the operation left. -/
theorem runOperations_then_ctickOf {i : Instr} {s m : State} (h : exec i s = .next m) (w : Wheel) :
    ∃ t, runOperations [i, ctickOf w] s = .next t ∧ t.wheel w = (m.wheel w).control := by
  refine ⟨m.setWheel w (m.wheel w).control, ?_, m.wheel_setWheel w _⟩
  rw [runOperations_cons h, runOperations_cons (exec_ctickOf w m), runOperations_nil]

/-- Control ticks of one wheel that follow one another iterate the tick of its channel. -/
theorem runOperations_replicate_ctickOf (w : Wheel) (n : Nat) (s : State) :
    ∃ t, runOperations (List.replicate n (ctickOf w)) s = .next t ∧
      t.wheel w = Channel.control^[n] (s.wheel w) := by
  induction n generalizing s with
  | zero => exact ⟨s, rfl, rfl⟩
  | succ n ih =>
    obtain ⟨t, run, wheel⟩ := ih (s.setWheel w (s.wheel w).control)
    refine ⟨t, ?_, ?_⟩
    · rw [List.replicate_succ, runOperations_cons (exec_ctickOf w s), run]
    · rw [wheel, State.wheel_setWheel, Function.iterate_succ_apply]

end Sys2Proof.Machine
end

section
/-! One control tick: its two branches and the actuator command (42_pid.md R130 to R135). -/

namespace Sys2Proof.Machine

open Sys2Proof

/-- The duty of the spec's five steps, each named by its letter (42_pid.md R134). -/
theorem Channel.pidDuty_eq {c : Channel} {e i d acc : Int} (he : e = sat32 (s32 c.setpoint - s32 c.linVel))
    (hi : i = sat32 (s32 c.integral + e)) (hd : d = sat32 (e - s32 c.prevErr))
    (hacc : acc = s32 c.kp * e + s32 c.ki * i + s32 c.kd * d) :
    c.pidDuty = clamp (s32 c.duty + shr acc 16) (-65536) 65536 := by
  subst he hi hd hacc
  rfl

/-- The regulating tick with the actuator call written out as two registers (42_pid.md R135). -/
theorem Channel.regulate_eq (c : Channel) :
    c.regulate = { c with
      mode := true, error := toReg c.pidError, integral := toReg c.pidIntegral, prevErr := toReg c.pidError
      duty := toReg c.pidDuty, motCmd := if c.pidDuty ≥ 0 then 1 else 2
      motMag := BitVec.ofInt 17 (if c.pidDuty ≥ 0 then c.pidDuty else -c.pidDuty)
      ticks := c.nextTicks } := by
  by_cases forward : c.pidDuty ≥ 0 <;> simp [Channel.regulate, Channel.drive, forward]

/-- `CTICK w` in the spec's words, on the one channel it writes. -/
theorem exec_ctickOf_eq (w : Wheel) (s : State) (e i d acc u : Int)
    (he : e = sat32 (s32 (s.wheel w).setpoint - s32 (s.wheel w).linVel))
    (hi : i = sat32 (s32 (s.wheel w).integral + e)) (hd : d = sat32 (e - s32 (s.wheel w).prevErr))
    (hacc : acc = s32 (s.wheel w).kp * e + s32 (s.wheel w).ki * i + s32 (s.wheel w).kd * d)
    (hu : u = clamp (s32 (s.wheel w).duty + shr acc 16) (-65536) 65536) :
    exec (ctickOf w) s = .next (
      if (s.wheel w).setpoint = 0 ∨ u32 (s.wheel w).ticks > u32 (s.wheel w).fC then
        s.setWheel w { s.wheel w with mode := false, motCmd := 0, motMag := 0, prevErr := 0 }
      else
        s.setWheel w { s.wheel w with
          mode := true, error := toReg e, integral := toReg i, prevErr := toReg e, duty := toReg u
          motCmd := if u ≥ 0 then 1 else 2
          motMag := BitVec.ofInt 17 (if u ≥ 0 then u else -u)
          ticks := BitVec.ofNat 32 (min (u32 (s.wheel w).ticks + 1) (2 ^ 32 - 1)) }) := by
  rw [exec_ctickOf]
  split
  next idle =>
    rw [Channel.control_of_idles ((s.wheel w).idles_iff.2 idle)]
    rfl
  next active =>
    have regulates : (s.wheel w).idles = false := by
      simpa [Channel.not_idles_iff] using active
    have duty : (s.wheel w).pidDuty = u := (Channel.pidDuty_eq he hi hd hacc).trans hu.symm
    rw [Channel.control_of_not_idles regulates, Channel.regulate_eq, duty]
    subst he hi
    rfl

/-- Settles O23: each wheel's tick replaces its channel by what the branch taken leaves. -/
theorem ctickIdlesOrRegulates : Obligations.CtickIdlesOrRegulates :=
  fun s => ⟨exec_ctickOf_eq .left s, exec_ctickOf_eq .right s⟩

/-- A channel whose actuator command is its duty's: the duty within full scale, the magnitude its absolute value, the
direction its sign (42_pid.md R135). -/
structure Channel.Driven (c : Channel) : Prop where
  lower : -65536 ≤ s32 c.duty
  upper : s32 c.duty ≤ 65536
  magnitude : c.motMag.toNat = (s32 c.duty).natAbs
  forward : 0 ≤ s32 c.duty → c.motCmd = 1
  backward : s32 c.duty < 0 → c.motCmd = 2

theorem Channel.regulate_driven (c : Channel) : c.regulate.Driven := by
  have duty : s32 c.regulate.duty = c.pidDuty := by rw [Channel.regulate_duty, s32_toReg_pidDuty]
  refine ⟨duty ▸ c.pidDuty_lower, duty ▸ c.pidDuty_upper, ?_, fun forward => ?_, fun backward => ?_⟩
  · rw [duty, Channel.regulate_motMag, toNat_driven_magnitude c.pidDuty_lower c.pidDuty_upper]
  · rw [duty] at forward
    rw [Channel.regulate_motCmd, if_pos forward]
  · rw [duty] at backward
    rw [Channel.regulate_motCmd, if_neg (by omega)]

/-- A tick outside the idle condition stores the clamped duty and drives the motor by it. -/
theorem exec_ctickOf_drives (w : Wheel) (s : State) (e i d acc : Int)
    (he : e = sat32 (s32 (s.wheel w).setpoint - s32 (s.wheel w).linVel))
    (hi : i = sat32 (s32 (s.wheel w).integral + e)) (hd : d = sat32 (e - s32 (s.wheel w).prevErr))
    (hacc : acc = s32 (s.wheel w).kp * e + s32 (s.wheel w).ki * i + s32 (s.wheel w).kd * d)
    (nonzero : (s.wheel w).setpoint ≠ 0) (window : u32 (s.wheel w).ticks ≤ u32 (s.wheel w).fC) :
    ∃ t, exec (ctickOf w) s = .next t ∧
      s32 (t.wheel w).duty = clamp (s32 (s.wheel w).duty + shr acc 16) (-65536) 65536 ∧
      -65536 ≤ s32 (t.wheel w).duty ∧ s32 (t.wheel w).duty ≤ 65536 ∧
      (t.wheel w).motMag.toNat = (s32 (t.wheel w).duty).natAbs ∧
      (0 ≤ s32 (t.wheel w).duty → (t.wheel w).motCmd = 1) ∧ (s32 (t.wheel w).duty < 0 → (t.wheel w).motCmd = 2) ∧
      (t.wheel w).mode = true := by
  have regulates : (s.wheel w).idles = false := (s.wheel w).not_idles_iff.2 ⟨nonzero, window⟩
  refine ⟨_, exec_ctickOf w s, ?_⟩
  rw [State.wheel_setWheel, Channel.control_of_not_idles regulates]
  obtain ⟨lower, upper, magnitude, forward, backward⟩ := (s.wheel w).regulate_driven
  have duty : s32 (s.wheel w).regulate.duty = clamp (s32 (s.wheel w).duty + shr acc 16) (-65536) 65536 := by
    rw [Channel.regulate_duty, s32_toReg_pidDuty, Channel.pidDuty_eq he hi hd hacc]
  exact ⟨duty, lower, upper, magnitude, forward, backward, Channel.regulate_mode _⟩

/-- Settles O24: the tick regulates, and a regulating tick leaves a channel driven by its duty. -/
theorem motorMagnitudeIsTheDutys : Obligations.MotorMagnitudeIsTheDutys :=
  fun s => ⟨exec_ctickOf_drives .left s, exec_ctickOf_drives .right s⟩

end Sys2Proof.Machine
end

section
/-! Setpoints written between control ticks (42_pid.md R132, R137, R141 (d)). -/

namespace Sys2Proof.Machine

open Sys2Proof

/-- `WR SETPOINT[w], v` in the spec's words. -/
theorem exec_wrSetpointOf_eq (w : Wheel) (v : Word) (s : State) :
    exec (wrSetpointOf w v) s = .next (
      if v = (s.wheel w).setpoint then { s with busRdata := 0 }
      else { s.setWheel w { s.wheel w with setpoint := v, prevErr := 0, integral := 0, ticks := 0 } with
        busRdata := 0 }) := by
  rw [exec_wrSetpointOf]
  split
  next same =>
    rw [same, Channel.setSetpoint_same, State.setWheel_wheel]
    rfl
  next new =>
    rw [Channel.setSetpoint_of_ne new]
    rfl

/-- Settles O27: a setpoint already held leaves the channel, and any other replaces it. -/
theorem setpointWrites : Obligations.SetpointWrites :=
  fun v s => ⟨exec_wrSetpointOf_eq .left v s, exec_wrSetpointOf_eq .right v s⟩

/-- A control tick right after a setpoint was written. -/
theorem Channel.control_setSetpoint (c : Channel) (v : Word) : TickedAtSetpoint v c (c.setSetpoint v).control :=
  c.ticked_setSetpoint v false

/-- A setpoint written to a timed-out wheel and a control tick: the held setpoint leaves the counter past the window, and
a new one restarts it. -/
theorem wrSetpointOf_ctickOf_after_timeout (w : Wheel) (s : State) (v : Word)
    (timeout : u32 (s.wheel w).ticks > u32 (s.wheel w).fC) :
    (∃ t, runOperations [wrSetpointOf w (s.wheel w).setpoint, ctickOf w] s = .next t ∧ (t.wheel w).mode = false) ∧
    (v ≠ 0 → v ≠ (s.wheel w).setpoint → ∃ t, runOperations [wrSetpointOf w v, ctickOf w] s = .next t ∧
      (t.wheel w).mode = true ∧ (t.wheel w).ticks = 1 ∧ (t.wheel w).setpoint = v) := by
  refine ⟨?_, fun nonzero new => ?_⟩
  · obtain ⟨t, run, wheel⟩ := runOperations_then_ctickOf (exec_wrSetpointOf w (s.wheel w).setpoint s) w
    refine ⟨t, run, ?_⟩
    have idles : (s.wheel w).idles = true := (s.wheel w).idles_iff.2 (.inr timeout)
    rw [wheel, State.wheel_quiet, State.wheel_setWheel, Channel.setSetpoint_same, Channel.control_mode,
      idles]
    rfl
  · obtain ⟨t, run, wheel⟩ := runOperations_then_ctickOf (exec_wrSetpointOf w v s) w
    refine ⟨t, run, ?_⟩
    rw [wheel, State.wheel_quiet, State.wheel_setWheel]
    obtain ⟨setpoint, regulates, -⟩ := (s.wheel w).control_setSetpoint v
    obtain ⟨mode, ticks⟩ := regulates nonzero new
    exact ⟨mode, ticks, setpoint⟩

/-- Settles O28: only a setpoint that differs ends the idle condition of a timeout. -/
theorem timedOutWheelNeedsANewSetpoint : Obligations.TimedOutWheelNeedsANewSetpoint :=
  fun s v => ⟨fun _ => wrSetpointOf_ctickOf_after_timeout .left s v,
    fun _ => wrSetpointOf_ctickOf_after_timeout .right s v⟩

/-- The zero command asks for two zero setpoints, whatever the track (43_kin.md R152). -/
theorem State.kinSetpoint_of_zero {s : State} (lin : s.cmdLin = 0) (ang : s.cmdAng = 0) (w : Wheel) :
    s.kinSetpoint w = 0 := by
  have noTurn : s.halfTurn = 0 := by
    simp [State.halfTurn, ang]
  cases w <;> simp [State.kinSetpoint, lin, noTurn, toReg]

/-- `KIN_SET` and then both control ticks: each wheel's tick finds the setpoint that `KIN_SET` wrote. -/
theorem runOperations_kinSet_cticks (s : State) :
    ∃ t, runOperations [.kinSet, .ctick0, .ctick1] s = .next t ∧
      ∀ w, t.wheel w = ((s.wheel w).setSetpoint (s.kinSetpoint w)).control :=
  ⟨_, rfl, fun w => by cases w <;> rfl⟩

/-- Settles O34: both ticks find the setpoint 0, whose tick idles. -/
theorem zeroBodyCommandIdlesBothWheels : Obligations.ZeroBodyCommandIdlesBothWheels := by
  intro s lin ang
  obtain ⟨t, run, wheel⟩ := runOperations_kinSet_cticks s
  have idle (w : Wheel) : TickedAtSetpoint 0 (s.wheel w) (t.wheel w) := by
    rw [wheel, State.kinSetpoint_of_zero lin ang]
    exact (s.wheel w).control_setSetpoint 0
  obtain ⟨setpoint0, -, idles0⟩ := idle .left
  obtain ⟨setpoint1, -, idles1⟩ := idle .right
  obtain ⟨mode0, motCmd0, motMag0, -⟩ := idles0 rfl
  obtain ⟨mode1, motCmd1, motMag1, -⟩ := idles1 rfl
  exact ⟨t, run, setpoint0, setpoint1, mode0, mode1, motCmd0, motCmd1, motMag0, motMag1⟩

end Sys2Proof.Machine
end

section
/-! The stall window: control ticks that follow one another, and the bound on the stall counter (42_pid.md R136). -/

namespace Sys2Proof.Machine

open Sys2Proof

/-! Control ticks that follow one another. -/

/-- What a control tick leaves in a channel, any number of them leaves. -/
theorem Channel.iterate_control_frame {α : Type} {f : Channel → α} (h : ∀ c, f c.control = f c) (n : Nat)
    (c : Channel) : f (Channel.control^[n] c) = f c := by
  induction n with
  | zero => rfl
  | succ n ih => rw [Function.iterate_succ_apply', h, ih]

@[simp] theorem Channel.iterate_control_setpoint (n : Nat) (c : Channel) :
    (Channel.control^[n] c).setpoint = c.setpoint :=
  Channel.iterate_control_frame Channel.control_setpoint n c

@[simp] theorem Channel.iterate_control_fC (n : Nat) (c : Channel) : (Channel.control^[n] c).fC = c.fC :=
  Channel.iterate_control_frame Channel.control_fC n c

@[simp] theorem Channel.iterate_control_kp (n : Nat) (c : Channel) : (Channel.control^[n] c).kp = c.kp :=
  Channel.iterate_control_frame Channel.control_kp n c

/-- Inside the stall window every control tick counts, up to the saturation of the counter. -/
theorem Channel.iterate_control_ticks {c : Channel} (nonzero : c.setpoint ≠ 0) {n : Nat}
    (window : u32 c.ticks + n ≤ u32 c.fC + 1) :
    u32 (Channel.control^[n] c).ticks = min (u32 c.ticks + n) (2 ^ 32 - 1) := by
  induction n with
  | zero =>
    have := u32_lt c.ticks
    rw [Function.iterate_zero_apply]
    omega
  | succ n ih =>
    have counted := ih (by omega)
    have regulates : (Channel.control^[n] c).idles = false := by
      rw [Channel.not_idles_iff, Channel.iterate_control_setpoint, Channel.iterate_control_fC]
      exact ⟨nonzero, by omega⟩
    rw [Function.iterate_succ_apply', Channel.control_of_not_idles regulates, Channel.regulate_ticks, u32_nextTicks]
    omega

/-- After `n` control ticks the next one still regulates if the counter started at least `n` below the window's end. -/
theorem Channel.iterate_control_not_idles {c : Channel} (nonzero : c.setpoint ≠ 0) {n : Nat}
    (window : u32 c.ticks + n ≤ u32 c.fC) : (Channel.control^[n] c).idles = false := by
  have counted := Channel.iterate_control_ticks nonzero (n := n) (by omega)
  rw [Channel.not_idles_iff, Channel.iterate_control_setpoint, Channel.iterate_control_fC]
  exact ⟨nonzero, by omega⟩

/-! The timeline from a stall counter of 0. -/

/-- Control ticks 1 to `F_C + 1` regulate and count. -/
theorem Channel.iterate_control_regulates {c : Channel} (nonzero : c.setpoint ≠ 0) (fresh : c.ticks = 0) {k : Nat}
    (below : u32 c.fC < 2 ^ 32 - 1) (hk : k ≤ u32 c.fC + 1) :
    u32 (Channel.control^[k] c).ticks = k ∧ (0 < k → (Channel.control^[k] c).mode = true) := by
  have zero : u32 c.ticks = 0 := by rw [fresh]; rfl
  refine ⟨?_, fun pos => ?_⟩
  · rw [Channel.iterate_control_ticks nonzero (by omega)]
    omega
  · obtain ⟨m, rfl⟩ := Nat.exists_eq_succ_of_ne_zero pos.ne'
    have regulates : (Channel.control^[m] c).idles = false := Channel.iterate_control_not_idles nonzero (by omega)
    rw [Function.iterate_succ_apply', Channel.control_mode, regulates]
    rfl

/-- Control tick `F_C + 2` is the first idle one. -/
theorem Channel.iterate_control_idles {c : Channel} (nonzero : c.setpoint ≠ 0) (fresh : c.ticks = 0)
    (below : u32 c.fC < 2 ^ 32 - 1) :
    (Channel.control^[u32 c.fC + 2] c).mode = false ∧ (Channel.control^[u32 c.fC + 2] c).motCmd = 0 ∧
      u32 (Channel.control^[u32 c.fC + 2] c).ticks = u32 c.fC + 1 := by
  obtain ⟨counted, -⟩ := Channel.iterate_control_regulates nonzero fresh below (Nat.le_refl (u32 c.fC + 1))
  have idles : (Channel.control^[u32 c.fC + 1] c).idles = true := by
    rw [Channel.idles_iff, Channel.iterate_control_fC]
    exact .inr (by omega)
  rw [Function.iterate_succ_apply', Channel.control_of_idles idles]
  exact ⟨rfl, rfl, counted⟩

/-- With `F_C` at its maximum the window never closes: the counter cannot pass it. -/
theorem Channel.iterate_control_regulates_of_fC_max {c : Channel} (nonzero : c.setpoint ≠ 0)
    (max : u32 c.fC = 2 ^ 32 - 1) {k : Nat} (pos : 0 < k) : (Channel.control^[k] c).mode = true := by
  obtain ⟨m, rfl⟩ := Nat.exists_eq_succ_of_ne_zero pos.ne'
  have regulates : (Channel.control^[m] c).idles = false := by
    have := u32_lt (Channel.control^[m] c).ticks
    rw [Channel.not_idles_iff, Channel.iterate_control_setpoint, Channel.iterate_control_fC]
    exact ⟨nonzero, by omega⟩
  rw [Function.iterate_succ_apply', Channel.control_mode, regulates]
  rfl

/-- The timeline of one wheel's control ticks. -/
theorem stallTimeline_wheel (w : Wheel) (s : State) (nonzero : (s.wheel w).setpoint ≠ 0)
    (fresh : (s.wheel w).ticks = 0) :
    (u32 (s.wheel w).fC < 2 ^ 32 - 1 →
      (∀ k, k ≤ u32 (s.wheel w).fC + 1 → ∃ t, runOperations (List.replicate k (ctickOf w)) s = .next t ∧
        u32 (t.wheel w).ticks = k ∧ (0 < k → (t.wheel w).mode = true)) ∧
      ∃ t, runOperations (List.replicate (u32 (s.wheel w).fC + 2) (ctickOf w)) s = .next t ∧
        (t.wheel w).mode = false ∧ (t.wheel w).motCmd = 0 ∧ u32 (t.wheel w).ticks = u32 (s.wheel w).fC + 1) ∧
    (u32 (s.wheel w).fC = 2 ^ 32 - 1 → ∀ k, 0 < k → ∃ t, runOperations (List.replicate k (ctickOf w)) s = .next t ∧
      (t.wheel w).mode = true) := by
  refine ⟨fun below => ⟨fun k hk => ?_, ?_⟩, fun max k pos => ?_⟩
  · obtain ⟨t, run, wheel⟩ := runOperations_replicate_ctickOf w k s
    exact ⟨t, run, wheel ▸ Channel.iterate_control_regulates nonzero fresh below hk⟩
  · obtain ⟨t, run, wheel⟩ := runOperations_replicate_ctickOf w (u32 (s.wheel w).fC + 2) s
    exact ⟨t, run, wheel ▸ Channel.iterate_control_idles nonzero fresh below⟩
  · obtain ⟨t, run, wheel⟩ := runOperations_replicate_ctickOf w k s
    exact ⟨t, run, wheel ▸ Channel.iterate_control_regulates_of_fC_max nonzero max pos⟩

/-- Settles O25: the counter is the number of ticks taken, and the idle condition compares it with `F_C`. -/
theorem stallTimeline : Obligations.StallTimeline :=
  fun s => ⟨stallTimeline_wheel .left s, stallTimeline_wheel .right s⟩

/-! The bound on the stall counter. -/

/-- The stall counter is at most one past the window. -/
def Channel.WithinWindow (c : Channel) : Prop := u32 c.ticks ≤ u32 c.fC + 1

/-- A control tick counts only where the counter has not passed `F_C`. -/
theorem Channel.control_withinWindow {c : Channel} (h : c.WithinWindow) : c.control.WithinWindow := by
  obtain ⟨-, idle⟩ | ⟨active, regulating⟩ := c.control_cases
  · exact idle ▸ h
  · obtain ⟨-, window⟩ := c.not_idles_iff.1 active
    rw [regulating, Channel.WithinWindow, Channel.regulate_ticks, Channel.regulate_fC, u32_nextTicks]
    omega

/-- A setpoint leaves the counter or zeroes it. -/
theorem Channel.setSetpoint_withinWindow {c : Channel} (h : c.WithinWindow) (v : Word) :
    (c.setSetpoint v).WithinWindow := by
  by_cases same : v = c.setpoint
  · rw [same, Channel.setSetpoint_same]
    exact h
  · rw [Channel.setSetpoint_of_ne same]
    exact Nat.zero_le _

/-- No operation but `RESET` takes a wheel's counter past the bound, unless it lowers the wheel's `F_C`. -/
theorem WheelEffect.withinWindow {w : Wheel} {i : Instr} {c d : Channel} (e : WheelEffect w i c d)
    (notLowered : ∀ v, i = wrFCOf w v → u32 c.fC ≤ u32 v) (h : c.WithinWindow) : d.WithinWindow := by
  cases e with
  | control => exact Channel.control_withinWindow h
  | setpoint => exact Channel.setSetpoint_withinWindow h _
  | fC hi => exact Nat.le_trans h (Nat.succ_le_succ (notLowered _ hi))
  | _ => exact h

theorem exec_withinWindow {i : Instr} {s t : State}
    (notLowered : ∀ w v, i = wrFCOf w v → u32 (s.wheel w).fC ≤ u32 v) (h : ∀ w, (s.wheel w).WithinWindow)
    (run : exec i s = .next t) (w : Wheel) : (t.wheel w).WithinWindow := by
  by_cases hr : ∀ a0 b0 a1 b1, i ≠ .reset a0 b0 a1 b1
  · exact (exec_wheelEffect w run hr).withinWindow (notLowered w) (h w)
  · push Not at hr
    obtain ⟨a0, b0, a1, b1, rfl⟩ := hr
    cases run
    cases w <;> exact Nat.zero_le _

/-- `F_C` written below the counter closes the window at the next control tick (70_reset_and_hazards.md R216). -/
theorem wrFCOf_ctickOf_below_ticks (w : Wheel) (s : State) (v : Word) (below : u32 v < u32 (s.wheel w).ticks) :
    ∃ t, runOperations [wrFCOf w v, ctickOf w] s = .next t ∧ (t.wheel w).fC = v ∧ (t.wheel w).mode = false ∧
      (t.wheel w).motCmd = 0 ∧ (t.wheel w).ticks = (s.wheel w).ticks := by
  obtain ⟨t, run, wheel⟩ := runOperations_then_ctickOf (exec_wrFCOf w v s) w
  have idles : Channel.idles { s.wheel w with fC := v } = true := (Channel.idles_iff _).2 (.inr below)
  refine ⟨t, run, ?_⟩
  rw [wheel, State.wheel_quiet, State.wheel_setWheel, Channel.control_of_idles idles]
  exact ⟨rfl, rfl, rfl, rfl⟩

/-- Settles O26: every effect on a wheel keeps the bound, and a counter above the new `F_C` is the idle condition. -/
theorem stallCounterStaysWithinTheWindow : Obligations.StallCounterStaysWithinTheWindow := by
  refine ⟨?_, wrFCOf_ctickOf_below_ticks .left, wrFCOf_ctickOf_below_ticks .right⟩
  intro i s t notLowered0 notLowered1 window0 window1 run
  have kept : ∀ w, (t.wheel w).WithinWindow := by
    refine exec_withinWindow (s := s) ?_ ?_ run
    · rintro (_ | _)
      · exact notLowered0
      · exact notLowered1
    · rintro (_ | _)
      · exact window0
      · exact window1
  exact ⟨kept .left, kept .right⟩

end Sys2Proof.Machine
end

section
/-! The incremental form of the regulator under a constant error (42_pid.md R142). -/

namespace Sys2Proof.Machine

open Sys2Proof

/-- Clamping on the way does not show in the end if both increments have one sign. -/
theorem clamp_clamp_add {x p k lo hi : Int} (hlo : lo ≤ x) (hhi : x ≤ hi)
    (sign : (0 ≤ p ∧ 0 ≤ k) ∨ (p ≤ 0 ∧ k ≤ 0)) :
    clamp (clamp (x + p) lo hi + k) lo hi = clamp (x + (p + k)) lo hi := by
  unfold clamp
  split_ifs <;> omega

/-- A multiple of an increment has the increment's sign. -/
theorem natCast_mul_same_sign (n : Nat) (k : Int) : (0 ≤ n * k ∧ 0 ≤ k) ∨ (n * k ≤ 0 ∧ k ≤ 0) := by
  obtain pos | neg := le_total 0 k
  · exact .inl ⟨mul_nonneg n.cast_nonneg pos, pos⟩
  · exact .inr ⟨mul_nonpos_of_nonneg_of_nonpos n.cast_nonneg neg, neg⟩

/-- The channel's error is `e`, the previous one was the same, and the integral has no weight. -/
structure Channel.Steady (e : Int) (c : Channel) : Prop where
  error : c.pidError = e
  prevErr : s32 c.prevErr = e
  ki : c.ki = 0

/-- Under a constant error only the proportional product is left of the sum. -/
theorem Channel.Steady.pidAcc_eq {e : Int} {c : Channel} (h : c.Steady e) : c.pidAcc = s32 c.kp * e := by
  obtain ⟨error, prevErr, ki⟩ := h
  have derivative : c.pidDerivative = 0 := by
    rw [Channel.pidDerivative, error, prevErr, sub_self, sat32_zero]
  rw [Channel.pidAcc, error, derivative, ki]
  simp

/-- A regulating tick does not end a constant error: it writes neither the setpoint nor the velocity. -/
theorem Channel.Steady.regulate {e : Int} {c : Channel} (h : c.Steady e) : c.regulate.Steady e := by
  obtain ⟨error, -, ki⟩ := h
  refine ⟨?_, ?_, (Channel.regulate_ki c).trans ki⟩
  · rw [Channel.pidError, Channel.regulate_setpoint, Channel.regulate_linVel]
    exact error
  · rw [Channel.regulate_prevErr, s32_toReg_pidError, error]

/-- Inside the stall window each control tick adds the one increment to the duty. -/
theorem Channel.Steady.iterate_control {e : Int} {c : Channel} (h : c.Steady e) (nonzero : c.setpoint ≠ 0)
    (lower : -65536 ≤ s32 c.duty) (upper : s32 c.duty ≤ 65536) {n : Nat}
    (window : u32 c.ticks + n ≤ u32 c.fC + 1) :
    (Channel.control^[n] c).Steady e ∧
      s32 (Channel.control^[n] c).duty = clamp (s32 c.duty + n * shr (s32 c.kp * e) 16) (-65536) 65536 := by
  induction n with
  | zero =>
    refine ⟨h, ?_⟩
    rw [Nat.cast_zero, zero_mul, add_zero, clamp_of_range lower upper, Function.iterate_zero_apply]
  | succ n ih =>
    obtain ⟨steady, duty⟩ := ih (by omega)
    have regulates : (Channel.control^[n] c).idles = false := Channel.iterate_control_not_idles nonzero (by omega)
    rw [Function.iterate_succ_apply', Channel.control_of_not_idles regulates]
    refine ⟨steady.regulate, ?_⟩
    rw [Channel.regulate_duty, s32_toReg_pidDuty, Channel.pidDuty, steady.pidAcc_eq, Channel.iterate_control_kp, duty,
      clamp_clamp_add lower upper (natCast_mul_same_sign n _), Nat.cast_succ, add_one_mul]

/-- The duty of one wheel after `n` control ticks. -/
theorem duty_after_cticks (w : Wheel) (s : State) (n : Nat) (nonzero : (s.wheel w).setpoint ≠ 0)
    (window : u32 (s.wheel w).ticks + n ≤ u32 (s.wheel w).fC + 1) (ki : (s.wheel w).ki = 0)
    (lower : -65536 ≤ s32 (s.wheel w).duty) (upper : s32 (s.wheel w).duty ≤ 65536) (e : Int)
    (he : e = sat32 (s32 (s.wheel w).setpoint - s32 (s.wheel w).linVel)) (prevErr : s32 (s.wheel w).prevErr = e) :
    ∃ t, runOperations (List.replicate n (ctickOf w)) s = .next t ∧
      s32 (t.wheel w).duty =
        clamp (s32 (s.wheel w).duty + n * shr (s32 (s.wheel w).kp * e) 16) (-65536) 65536 := by
  obtain ⟨t, run, wheel⟩ := runOperations_replicate_ctickOf w n s
  have steady : (s.wheel w).Steady e := ⟨he.symm, prevErr, ki⟩
  obtain ⟨-, duty⟩ := steady.iterate_control nonzero lower upper window
  exact ⟨t, run, wheel ▸ duty⟩

/-- Settles O30: by induction on the ticks, each of which finds the same error and adds the same increment. -/
theorem dutyAccumulatesTheIncrement : Obligations.DutyAccumulatesTheIncrement :=
  fun s n => ⟨duty_after_cticks .left s n, duty_after_cticks .right s n⟩

end Sys2Proof.Machine
end

section
/-! Differential-drive kinematics: the two operations, and their round trip (43_kin.md R151 to R156). -/

namespace Sys2Proof.Machine

open Sys2Proof

/-! The operations. -/

/-- `SetSetpoint` with its "differs" test written the other way round (42_pid.md R137). -/
theorem Channel.setSetpoint_eq (c : Channel) (v : Word) :
    c.setSetpoint v =
      if v = c.setpoint then c else { c with setpoint := v, prevErr := 0, integral := 0, ticks := 0 } := by
  split
  next same => exact if_neg (not_not_intro same)
  next differs => exact Channel.setSetpoint_of_ne differs

theorem exec_kinSet (s : State) : exec .kinSet s = .next s.kinSet.quiet := rfl

theorem exec_kinGet (s : State) : exec .kinGet s = .next s.kinGet.quiet := rfl

/-- Settles O31: each wheel's `SetSetpoint` makes its own "differs" test. -/
theorem kinSetWritesBothSetpoints : Obligations.KinSetWritesBothSetpoints := by
  rintro s h vl vr rfl rfl rfl
  rw [← Channel.setSetpoint_eq, ← Channel.setSetpoint_eq, exec_kinSet]
  rfl

/-- The setpoints after `KIN_SET`, whatever the wheels held (43_kin.md R151). -/
theorem State.kinSet_setpoints (s : State) :
    s.kinSet.left.setpoint = toReg (sat32 (s32 s.cmdLin - s.halfTurn)) ∧
      s.kinSet.right.setpoint = toReg (sat32 (s32 s.cmdLin + s.halfTurn)) :=
  ⟨Channel.setSetpoint_setpoint _ _, Channel.setSetpoint_setpoint _ _⟩

/-- Settles O56: in the range, saturating `h` changes nothing. -/
theorem kinSetWordingsAgreeInRange : Obligations.KinSetWordingsAgreeInRange := by
  rintro s h rfl lo hi
  obtain ⟨left, right⟩ := s.kinSet_setpoints
  rw [State.halfTurn_of_range lo hi] at left right
  refine ⟨_, exec_kinSet s, ?_⟩
  rw [State.quiet_left, State.quiet_right, left, right, sat32_of_range lo hi, s32_toReg_sat32, s32_toReg_sat32]
  exact ⟨rfl, rfl, rfl, rfl⟩

/-! The angular result of `KIN_GET`. -/

theorem bodyAngular_of_ne {track : Int} (h : track ≠ 0) (num : Int) : bodyAngular num track = sat32 (fdiv num track) :=
  if_neg h

/-- The pattern `KIN_GET` latches: without a track width, the end of the range on the numerator's side
(43_kin.md R153, R154). -/
theorem toReg_bodyAngular (num : Int) (track : Word) :
    toReg (bodyAngular num (s32 track)) =
      if track = 0 then (if num > 0 then 0x7FFFFFFF#32 else if num < 0 then 0x80000000#32 else 0)
      else toReg (sat32 (fdiv num (s32 track))) := by
  split
  next zero =>
    rw [bodyAngular, if_pos ((s32_eq_zero_iff track).2 zero)]
    split_ifs <;> rfl
  next nonzero => rw [bodyAngular_of_ne (mt (s32_eq_zero_iff track).1 nonzero)]

/-- Settles O32: the two latched results, the angular one case by case. -/
theorem kinGetLatchesTheBodyVelocity : Obligations.KinGetLatchesTheBodyVelocity := by
  rintro s num rfl
  rw [← toReg_bodyAngular, exec_kinGet]
  rfl

/-! `KIN_GET` after `KIN_SET`. -/

/-- If neither setpoint saturates, `h` is in the signed range: twice `h` is the difference of two values of it. -/
theorem State.halfTurn_of_unsaturated {s : State} {h : Int} (hh : h = shr (s32 s.cmdAng * s32 s.track) 17)
    (loLeft : -2 ^ 31 ≤ s32 s.cmdLin - h) (hiLeft : s32 s.cmdLin - h ≤ 2 ^ 31 - 1)
    (loRight : -2 ^ 31 ≤ s32 s.cmdLin + h) (hiRight : s32 s.cmdLin + h ≤ 2 ^ 31 - 1) : s.halfTurn = h := by
  rw [State.halfTurn, ← hh, sat32_of_range (by omega) (by omega)]

/-- `fdiv` by a positive divisor is the floor: its product with the divisor is at most the dividend, by less than the
divisor (00_scope.md R13). -/
theorem fdiv_mul_bounds (n : Int) {d : Int} (pos : 0 < d) : fdiv n d * d ≤ n ∧ n < fdiv n d * d + d := by
  rw [fdiv, Int.fdiv_eq_ediv_of_nonneg n pos.le]
  refine ⟨Int.ediv_mul_le n pos.ne', ?_⟩
  calc n < (n / d + 1) * d := Int.lt_ediv_add_one_mul_self n pos
    _ = n / d * d + d := add_one_mul _ _

/-- The two floors of the round trip: `fdiv` takes back what `shr` made of the product, but for what each rounds off
(43_kin.md R156). -/
theorem fdiv_shr_mul_bounds (a : Int) {d : Int} (pos : 0 < d) (n : Nat) :
    fdiv (shr (a * d) n * 2 ^ n) d ≤ a ∧ (a - fdiv (shr (a * d) n * 2 ^ n) d) * d < d + 2 ^ n := by
  obtain ⟨shrLower, shrUpper⟩ := (shr_eq_iff (a * d) n _).1 rfl
  obtain ⟨fdivLower, fdivUpper⟩ := fdiv_mul_bounds (shr (a * d) n * 2 ^ n) pos
  refine ⟨le_of_mul_le_mul_right (fdivLower.trans shrLower) pos, ?_⟩
  linarith

/-- Saturating a value below one of the signed range only brings it nearer. -/
theorem sat32_between {z : Int} {p : Word} (h : z ≤ s32 p) : z ≤ sat32 z ∧ sat32 z ≤ s32 p := by
  have := s32_lower p
  have := s32_upper p
  unfold sat32
  split_ifs <;> omega

/-- What `KIN_GET` makes of a commanded angular velocity's own `h` (43_kin.md R156). -/
theorem bodyAngular_roundTrip (a : Word) {track : Int} (pos : 0 < track) :
    bodyAngular (shr (s32 a * track) 17 * 2 ^ 17) track ≤ s32 a ∧
      (s32 a - bodyAngular (shr (s32 a * track) 17 * 2 ^ 17) track) * track < track + 2 ^ 17 := by
  obtain ⟨quotientUpper, gap⟩ := fdiv_shr_mul_bounds (s32 a) pos 17
  obtain ⟨lower, upper⟩ := sat32_between quotientUpper
  rw [bodyAngular_of_ne pos.ne']
  exact ⟨upper, (mul_le_mul_of_nonneg_right (sub_le_sub_left lower _) pos.le).trans_lt gap⟩

/-- `KIN_GET` on wheel velocities that lie `h` to either side of `v`. -/
theorem State.kinGet_of_symmetric {s : State} {v h : Int} (left : s32 s.left.linVel = v - h)
    (right : s32 s.right.linVel = v + h) :
    s.kinGet.bodyLin = toReg v ∧ s32 s.kinGet.bodyAng = bodyAngular (h * 2 ^ 17) (s32 s.track) := by
  have mean : shr (v - h + (v + h)) 1 = v := by unfold shr; omega
  have numerator : (v + h - (v - h)) * 65536 = h * 2 ^ 17 := by ring
  obtain ⟨lower, upper⟩ := bodyAngular_range (h * 2 ^ 17) (s32 s.track)
  rw [State.kinGet_bodyLin, State.kinGet_bodyAng, left, right, mean, numerator, s32_toReg lower upper]
  exact ⟨rfl, rfl⟩

/-- Settles O33: the velocities lie `h` to either side of `CMD_LIN`, so the mean is exact and the quotient is short of
`CMD_ANG` by the two floors. -/
theorem kinematicsRoundTrip : Obligations.KinematicsRoundTrip := by
  intro s t h hh pos loLeft hiLeft loRight hiRight run velLeft velRight
  have turn := State.halfTurn_of_unsaturated hh loLeft hiLeft loRight hiRight
  obtain ⟨setpointLeft, setpointRight⟩ := s.kinSet_setpoints
  have left : s32 s.kinSet.left.setpoint = s32 s.cmdLin - h := by
    rw [setpointLeft, turn, s32_toReg_sat32, sat32_of_range loLeft hiLeft]
  have right : s32 s.kinSet.right.setpoint = s32 s.cmdLin + h := by
    rw [setpointRight, turn, s32_toReg_sat32, sat32_of_range loRight hiRight]
  rw [exec_kinSet] at run
  cases run
  have linVelLeft : s.kinSet.left.linVel = s.kinSet.left.setpoint := (Channel.setSetpoint_linVel _ _).trans velLeft
  have linVelRight : s.kinSet.right.linVel = s.kinSet.right.setpoint := (Channel.setSetpoint_linVel _ _).trans velRight
  obtain ⟨bodyLin, bodyAng⟩ :=
    State.kinGet_of_symmetric (s := s.kinSet.quiet) (linVelLeft ▸ left) (linVelRight ▸ right)
  refine ⟨?_, _, exec_kinGet _, ?_⟩
  · rw [State.quiet_left, State.quiet_right, left, right]
    ring
  · rw [State.quiet_bodyLin, State.quiet_bodyAng, bodyLin, bodyAng, toReg_s32, hh]
    exact ⟨rfl, bodyAngular_roundTrip s.cmdAng pos⟩

end Sys2Proof.Machine
end

section
/-! The frame of a plain store over the register space (44_sys.md R163, 20_memory.md R68). -/

namespace Sys2Proof.Machine

open Sys2Proof

/-- The offsets of the plain read-write registers in a wheel's block (20_memory.md R68): its writable ones but
`SETPOINT`, whose write does more than store. -/
def plainOffsets : List Nat := [0x05, 0x06, 0x0D, 0x0E, 0x0F, 0x10]

/-- A write to a plain register of a channel replaces what a read at its offset returns, and nothing else: each other
offset reads a register that the write leaves. -/
theorem Channel.readAt_writeAt {o : Nat} (plain : o ∈ plainOffsets) (c : Channel) (v : Word) :
    (c.writeAt o v).readAt = Function.update c.readAt o v := by
  rw [Function.eq_update_iff]
  simp only [plainOffsets, List.mem_cons, List.not_mem_nil, or_false] at plain
  obtain rfl | rfl | rfl | rfl | rfl | rfl := plain
  all_goals
    refine ⟨rfl, fun n other => ?_⟩
    unfold Channel.readAt
    split <;> trivial

theorem busWrite_wheel (s : State) {a : RegIndex} (below : a.toNat < 0x40) (v : Word) :
    busWrite s a v = s.setWheel (wheelOfIndex a) ((s.wheel (wheelOfIndex a)).writeAt (a.toNat % 0x20) v) :=
  if_pos below

/-- A read of the global block does not see the wheels. -/
theorem busRead_setWheel_of_global (s : State) (w : Wheel) (c : Channel) {a : RegIndex} (global : ¬ a.toNat < 0x40) :
    busRead (s.setWheel w c) a = busRead s a := by
  simp [busRead, global, State.gstat]

/-- A wheel's index is told by its wheel and its offset (30_encoding.md R86). -/
theorem wheelIndex_wheelOfIndex {a : RegIndex} (below : a.toNat < 0x40) :
    wheelIndex (wheelOfIndex a) (a.toNat % 0x20) = a := by
  revert a
  decide

/-- A plain store on a wheel: an index of the same wheel differs in its offset, any other reads no part of the channel. -/
theorem busRead_busWrite_wheel {a : RegIndex} (below : a.toNat < 0x40) (plain : a.toNat % 0x20 ∈ plainOffsets)
    (s : State) (v : Word) : busRead (busWrite s a v) = Function.update (busRead s) a v := by
  have written := Channel.readAt_writeAt plain (s.wheel (wheelOfIndex a)) v
  rw [Function.eq_update_iff, busWrite_wheel s below]
  constructor
  · rw [busRead_wheel _ below, State.wheel_setWheel, written, Function.update_self]
  · intro b other
    by_cases wheels : b.toNat < 0x40
    · rw [busRead_wheel _ wheels, busRead_wheel _ wheels]
      by_cases same : wheelOfIndex b = wheelOfIndex a
      · have offset : b.toNat % 0x20 ≠ a.toNat % 0x20 := fun offset => other <| by
          rw [← wheelIndex_wheelOfIndex wheels, same, offset, wheelIndex_wheelOfIndex below]
        rw [same, State.wheel_setWheel, written, Function.update_of_ne offset]
      · rw [State.wheel_setWheel_of_ne s same]
    · exact busRead_setWheel_of_global s _ _ wheels

/-- A plain store in the global block: each other index reads a register that the write leaves. -/
theorem busRead_busWrite_global {a : RegIndex} (plain : a ∈ [0x41#8, 0x42#8, 0x43#8]) (s : State) (v : Word) :
    busRead (busWrite s a v) = Function.update (busRead s) a v := by
  rw [Function.eq_update_iff]
  simp only [List.mem_cons, List.not_mem_nil, or_false] at plain
  obtain rfl | rfl | rfl := plain
  all_goals
    refine ⟨rfl, fun b other => ?_⟩
    have number : b.toNat ≠ _ := BitVec.toNat_ne.1 other
    unfold busRead
    split
    · rfl
    · split <;> trivial

/-- The plain read-write registers are the wheels' and the three global ones (20_memory.md R68). -/
theorem plain_index_cases {a : RegIndex} (plain : a.toNat ∈
      [0x05, 0x06, 0x0D, 0x0E, 0x0F, 0x10, 0x25, 0x26, 0x2D, 0x2E, 0x2F, 0x30, 0x41, 0x42, 0x43]) :
    (a.toNat < 0x40 ∧ a.toNat % 0x20 ∈ plainOffsets) ∨ a ∈ [0x41#8, 0x42#8, 0x43#8] := by
  revert a
  decide

/-- Settles O40: a plain store updates what reads return at one index, on a wheel as in the global block. -/
theorem plainStoreFrameOverTheRegisterSpace : Obligations.PlainStoreFrameOverTheRegisterSpace := by
  intro a v s plain
  refine ⟨(busWrite s a v).quiet, exec_decodeWrite a v s, Function.eq_update_iff.1 ?_⟩
  show busRead (busWrite s a v) = _
  obtain ⟨below, offset⟩ | global := plain_index_cases plain
  · exact busRead_busWrite_wheel below offset s v
  · exact busRead_busWrite_global global s v

end Sys2Proof.Machine
end

section
/-! The register port index by index (44_sys.md R161 to R167). -/

namespace Sys2Proof.Machine

open Sys2Proof

/-- Settles O37: a request without `bus_we` takes the decoder's branch of the reads, whose operations are `BusRead`. -/
theorem readByIndexIsBusRead : Obligations.ReadByIndexIsBusRead :=
  fun a s => ⟨exec_decodeRead a s, fun _ req we addr => addr ▸ decodeBus_of_read req we⟩

/-- Settles O38: a request with `bus_we` takes the branch of the writes, whose operations are `BusWrite`. -/
theorem writeByIndexIsBusWrite : Obligations.WriteByIndexIsBusWrite :=
  fun a v s => ⟨exec_decodeWrite a v s, fun _ req we addr data => addr ▸ data ▸ decodeBus_of_write req we⟩

/-- Settles O35: each operation is what the read of its index selects, and `BusRead` of that index is the register. -/
theorem readsOfWheelRegisters : Obligations.ReadsOfWheelRegisters := by
  intro s
  have read (a : RegIndex) := exec_decodeRead a s
  exact ⟨read 0x00#8, read 0x01#8, read 0x02#8, read 0x03#8, read 0x04#8, read 0x05#8, read 0x06#8, read 0x07#8,
    read 0x08#8, read 0x09#8, read 0x0A#8, read 0x0B#8, read 0x0C#8, read 0x0D#8, read 0x0E#8, read 0x0F#8,
    read 0x10#8, read 0x11#8, read 0x12#8,
    read 0x20#8, read 0x21#8, read 0x22#8, read 0x23#8, read 0x24#8, read 0x25#8, read 0x26#8, read 0x27#8,
    read 0x28#8, read 0x29#8, read 0x2A#8, read 0x2B#8, read 0x2C#8, read 0x2D#8, read 0x2E#8, read 0x2F#8,
    read 0x30#8, read 0x31#8, read 0x32#8⟩

/-- Settles O36: `BusRead` of the six global indices, and the catch-all row for the indices that read 0. -/
theorem readsOfGlobalRegistersAndUnmappedIndices : Obligations.ReadsOfGlobalRegistersAndUnmappedIndices := by
  intro s
  have read (a : RegIndex) := exec_decodeRead a s
  exact ⟨read 0x41#8, read 0x42#8, read 0x43#8, read 0x44#8, read 0x45#8, read 0x46#8,
    fun a zero => ⟨decodeRead_of_readsZero zero, rfl⟩⟩

/-- Settles O39: each operation is what the write of its index selects, and `BusWrite` there replaces the register. -/
theorem plainStoresReplaceTheirRegister : Obligations.PlainStoresReplaceTheirRegister := by
  intro v s
  have write (a : RegIndex) := exec_decodeWrite a v s
  exact ⟨write 0x05#8, write 0x06#8, write 0x0D#8, write 0x0E#8, write 0x0F#8, write 0x10#8,
    write 0x25#8, write 0x26#8, write 0x2D#8, write 0x2E#8, write 0x2F#8, write 0x30#8,
    write 0x41#8, write 0x42#8, write 0x43#8⟩

/-- Settles O44: the two command codes are those of `EN` in `ExecCmd`, and `drv_en` shows the register. -/
theorem enableAndDisable : Obligations.EnableAndDisable :=
  ⟨rfl, rfl, fun s => ⟨exec_decodeCommand 0x03#8 s, exec_decodeCommand 0x04#8 s, rfl⟩⟩

end Sys2Proof.Machine
end

section
/-! Every operation, every step and every run answers a next state (60_exceptions.md R180, 00_scope.md R19). -/

namespace Sys2Proof.Machine

open Sys2Proof

/-- Each arm of `exec` answers `.next`. -/
theorem exec_total (i : Instr) (s : State) : ∃ t, exec i s = .next t := by
  cases i with
  | _ => exact ⟨_, rfl⟩

/-- A machine whose every step answers a next state never ends a run. -/
theorem run_total {M : Host.Core} (step_total : ∀ s, ∃ t, M.step s = .next t) (n : Nat) (s : M.State) :
    ∃ t, M.run n s = .next t := by
  induction n generalizing s with
  | zero => exact ⟨s, rfl⟩
  | succ n ih =>
    obtain ⟨m, first⟩ := step_total s
    rw [run_succ_of_step first]
    exact ih m

/-- Settles O8: each operation has a next state, a step is the five phases, and a run is one step after another. -/
theorem everyStepAnswersANextState : Obligations.EveryStepAnswersANextState := by
  have step_total (s : State) : ∃ t, step s = .next t := ⟨_, step_eq_cycleByPhases rfl⟩
  exact ⟨exec_total, step_total, run_total (M := Sys2Proof.core) step_total⟩

end Sys2Proof.Machine
end

section
/-! The input words that two runs may take when they may differ in the other wheel's own pins (30_encoding.md R80). -/

namespace Sys2Proof.Machine

open Sys2Proof

/-- Wheel `w`'s sampled encoder levels in the input, `A` and `B` (30_encoding.md R80). -/
def levelPins (p : Input) : Wheel → Bool × Bool
  | .left => (p.encA0, p.encB0)
  | .right => (p.encA1, p.encB1)

/-- Two inputs that agree on reset, on the bus and on wheel `w`'s own pins. -/
structure SameInputFor (w : Wheel) (p q : Input) : Prop where
  rst : p.rst = q.rst
  busReq : p.busReq = q.busReq
  busWe : p.busWe = q.busWe
  busAddr : p.busAddr = q.busAddr
  busWdata : p.busWdata = q.busWdata
  levels : levelPins p w = levelPins q w
  stick : stickPin p w = stickPin q w
  ctick : ctickPin p w = ctickPin q w

/-- Words equal under a mask agree at every bit that the mask leaves. -/
theorem getLsbD_eq_of_masked {i j m : InputWord} (h : i &&& ~~~m = j &&& ~~~m) {k : Nat}
    (unmasked : m.getLsbD k = false) : i.getLsbD k = j.getLsbD k := by
  by_cases hk : k < 51
  · have bit := congrArg (·.getLsbD k) h
    simpa only [BitVec.getLsbD_and, BitVec.getLsbD_not, hk, unmasked, decide_true, Bool.not_false, Bool.and_true]
      using bit
  · rw [BitVec.getLsbD_of_ge _ _ (by omega), BitVec.getLsbD_of_ge _ _ (by omega)]

/-- No wheel's own pin is a bit of the address or of the data. -/
theorem getLsbD_ownPins_of_lt (w : Wheel) {k : Nat} (low : k < 40) : (ownPins w).getLsbD k = false := by
  have above : ∀ n, 40 ≤ n → k ≠ n := by omega
  cases w <;> simp [ownPins, getLsbD_pinAt, above]

/-- Words equal but for the other wheel's own pins have inputs that are the same for this wheel. -/
theorem sameInputFor_of_masked {w : Wheel} {i j : InputWord}
    (h : i &&& ~~~ownPins (otherWheel w) = j &&& ~~~ownPins (otherWheel w)) :
    SameInputFor w (Input.ofWord i) (Input.ofWord j) := by
  have bit {k : Nat} (unmasked : (ownPins (otherWheel w)).getLsbD k = false) : i.getLsbD k = j.getLsbD k :=
    getLsbD_eq_of_masked h unmasked
  have field (start len : Nat) (low : start + len ≤ 40) : i.extractLsb' start len = j.extractLsb' start len := by
    apply BitVec.eq_of_getLsbD_eq
    intro k hk
    rw [BitVec.getLsbD_extractLsb', BitVec.getLsbD_extractLsb', bit (getLsbD_ownPins_of_lt _ (by omega))]
  have shared : (ownPins (otherWheel w)).getLsbD 50 = false ∧ (ownPins (otherWheel w)).getLsbD 41 = false ∧
      (ownPins (otherWheel w)).getLsbD 40 = false := by cases w <;> decide
  obtain ⟨rst, busReq, busWe⟩ := shared
  refine ⟨bit rst, bit busReq, bit busWe, field 32 8 (by decide), field 0 32 (by decide), ?_, ?_, ?_⟩
  · cases w with
    | left => exact Prod.ext (bit (k := 46) (by decide)) (bit (k := 47) (by decide))
    | right => exact Prod.ext (bit (k := 48) (by decide)) (bit (k := 49) (by decide))
  · cases w with
    | left => exact bit (k := 42) (by decide)
    | right => exact bit (k := 43) (by decide)
  · cases w with
    | left => exact bit (k := 44) (by decide)
    | right => exact bit (k := 45) (by decide)

end Sys2Proof.Machine
end

section
/-! What a wheel does not see, and what two runs that are the same for it do alike (60_exceptions.md R196). -/

namespace Sys2Proof.Machine

open Sys2Proof

/-! The relation. -/

theorem SameFor.refl (w : Wheel) (s : State) : SameFor w s s := ⟨rfl, rfl, rfl, rfl, rfl, rfl, rfl⟩

theorem SameFor.symm {w : Wheel} {s t : State} (h : SameFor w s t) : SameFor w t s := by
  obtain ⟨wheel, lin, ang, track, draws, cycle, inputs⟩ := h
  exact ⟨wheel.symm, lin.symm, ang.symm, track.symm, draws.symm, cycle.symm, inputs.symm⟩

theorem SameFor.trans {w : Wheel} {s t u : State} (h : SameFor w s t) (h' : SameFor w t u) : SameFor w s u := by
  obtain ⟨wheel, lin, ang, track, draws, cycle, inputs⟩ := h
  obtain ⟨wheel', lin', ang', track', draws', cycle', inputs'⟩ := h'
  exact ⟨wheel.trans wheel', lin.trans lin', ang.trans ang', track.trans track', draws.trans draws',
    cycle.trans cycle', inputs.trans inputs'⟩

/-- Changes that wheel `w` does not see, made to two related states, leave them related. -/
theorem SameFor.of_unseen {w : Wheel} {s t s' t' : State} (h : SameFor w s t) (hs : SameFor w s' s)
    (ht : SameFor w t' t) : SameFor w s' t' :=
  (hs.trans h).trans ht.symm

/-! Changes a wheel does not see. -/

/-- The registers that only the bus and the pins show. -/
theorem sameFor_unread (w : Wheel) (s : State) (lin ang : Word) (e : Bool) (v : Word) :
    SameFor w { s with bodyLin := lin, bodyAng := ang, en := e, busRdata := v } s := by
  cases w <;> exact ⟨rfl, rfl, rfl, rfl, rfl, rfl, rfl⟩

theorem sameFor_setWheel_of_ne {w v : Wheel} (h : w ≠ v) (c : Channel) (s : State) :
    SameFor w (s.setWheel v c) s :=
  ⟨s.wheel_setWheel_of_ne h c, by simp⟩

theorem sameFor_useDraw_of_ne {w v : Wheel} (h : w ≠ v) (s : State) : SameFor w (s.useDraw v) s :=
  ⟨by simp, by simp, by simp, by simp, s.draws_useDraw_of_ne h, by simp⟩

theorem sameFor_quadTransition_of_ne {w v : Wheel} (h : w ≠ v) (a b : Bool) (s : State) :
    SameFor w (quadTransition v a b s) s := by
  simp only [quadTransition]
  split
  · exact (sameFor_useDraw_of_ne h _).trans (sameFor_setWheel_of_ne h _ s)
  · exact sameFor_setWheel_of_ne h _ s

/-! Changes made alike in two related states. -/

/-- A new channel that is the same in both states. -/
theorem SameFor.setWheel {w : Wheel} {s t : State} (h : SameFor w s t) (c : Channel) :
    SameFor w (s.setWheel w c) (t.setWheel w c) := by
  obtain ⟨-, rest⟩ := h
  cases w <;> exact ⟨rfl, rest⟩

/-- A change of any wheel's channel that depends on that channel alone. -/
theorem SameFor.modifyWheel {w : Wheel} {s t : State} (h : SameFor w s t) (v : Wheel) (f : Channel → Channel) :
    SameFor w (s.setWheel v (f (s.wheel v))) (t.setWheel v (f (t.wheel v))) := by
  by_cases own : w = v
  · subst own
    have ⟨wheel, _⟩ := h
    rw [wheel]
    exact h.setWheel _
  · exact h.of_unseen (sameFor_setWheel_of_ne own _ s) (sameFor_setWheel_of_ne own _ t)

theorem SameFor.useDraw {w : Wheel} {s t : State} (h : SameFor w s t) :
    SameFor w (s.useDraw w) (t.useDraw w) := by
  obtain ⟨wheel, lin, ang, track, draws, cycle, inputs⟩ := h
  have used : s.draws w + 1 = t.draws w + 1 := congrArg (· + 1) draws
  cases w <;> exact ⟨wheel, lin, ang, track, used, cycle, inputs⟩

/-- The wheel's own transition reads its channel and its draws (40_qdec.md R102). -/
theorem SameFor.quadTransition {w : Wheel} {s t : State} (h : SameFor w s t) (a b : Bool) :
    SameFor w (quadTransition w a b s) (quadTransition w a b t) := by
  have ⟨wheel, _, _, _, draws, _⟩ := h
  simp only [Machine.quadTransition, wheel, draws]
  split
  · exact (h.setWheel _).useDraw
  · exact h.setWheel _

/-- `KIN_SET` reads the global registers and each wheel's own channel (43_kin.md R151). -/
theorem SameFor.kinSet {w : Wheel} {s t : State} (h : SameFor w s t) : SameFor w s.kinSet t.kinSet := by
  obtain ⟨wheel, lin, ang, track, rest⟩ := h
  have setpoint : s.kinSetpoint w = t.kinSetpoint w := by
    cases w <;> simp only [State.kinSetpoint, State.halfTurn, lin, ang, track]
  have written : (s.wheel w).setSetpoint (s.kinSetpoint w) = (t.wheel w).setSetpoint (t.kinSetpoint w) := by
    rw [wheel, setpoint]
  cases w <;> exact ⟨written, lin, ang, track, rest⟩

theorem SameFor.execCommand {w : Wheel} {s t : State} (h : SameFor w s t) (code : BitVec 8) :
    SameFor w (execCommand code s) (execCommand code t) := by
  unfold Machine.execCommand
  split
  · exact h.kinSet
  · exact h.of_unseen (sameFor_unread w s _ _ _ _) (sameFor_unread w t _ _ _ _)
  · exact h.of_unseen (sameFor_unread w s _ _ _ _) (sameFor_unread w t _ _ _ _)
  · exact h.of_unseen (sameFor_unread w s _ _ _ _) (sameFor_unread w t _ _ _ _)
  · exact h.modifyWheel .left Channel.zeroCount
  · exact h.modifyWheel .right Channel.zeroCount
  · exact h

theorem SameFor.busWrite {w : Wheel} {s t : State} (h : SameFor w s t) (a : RegIndex) (v : Word) :
    SameFor w (busWrite s a v) (busWrite t a v) := by
  by_cases below : a.toNat < 0x40
  · rw [busWrite_wheel s below, busWrite_wheel t below]
    exact h.modifyWheel _ (·.writeAt _ v)
  · simp only [Machine.busWrite, if_neg below]
    have ⟨wheel, lin, ang, track, rest⟩ := h
    split
    · exact h.execCommand _
    · cases w <;> exact ⟨wheel, rfl, ang, track, rest⟩
    · cases w <;> exact ⟨wheel, lin, rfl, track, rest⟩
    · cases w <;> exact ⟨wheel, lin, ang, rfl, rest⟩
    · exact h

/-! The phases of a cycle (20_memory.md R70). -/

/-- Of phase 1 a wheel sees its own transition. -/
theorem sameFor_phaseEdges (w : Wheel) (p : Input) (s : State) :
    SameFor w (phaseEdges p s) (quadTransition w (levelPins p w).1 (levelPins p w).2 s) := by
  cases w with
  | left => exact sameFor_quadTransition_of_ne (by decide) _ _ _
  | right =>
    have unseen : SameFor .right (quadTransition .left p.encA0 p.encB0 s) s :=
      sameFor_quadTransition_of_ne (by decide) _ _ s
    exact unseen.quadTransition _ _

theorem SameFor.phaseEdges {w : Wheel} {p q : Input} {s t : State} (h : SameFor w s t)
    (input : SameInputFor w p q) : SameFor w (phaseEdges p s) (phaseEdges q t) := by
  refine SameFor.of_unseen ?_ (sameFor_phaseEdges w p s) (sameFor_phaseEdges w q t)
  rw [input.levels]
  exact h.quadTransition _ _

theorem SameFor.phaseBus {w : Wheel} {p q : Input} {s t : State} (h : SameFor w s t)
    (input : SameInputFor w p q) : SameFor w (phaseBus p s) (phaseBus q t) := by
  simp only [Machine.phaseBus, input.busReq, input.busWe, input.busAddr, input.busWdata]
  split_ifs
  · exact (h.busWrite _ _).of_unseen (sameFor_unread w _ _ _ _ _) (sameFor_unread w _ _ _ _ _)
  · exact h.of_unseen (sameFor_unread w s _ _ _ _) (sameFor_unread w t _ _ _ _)
  · exact h.of_unseen (sameFor_unread w s _ _ _ _) (sameFor_unread w t _ _ _ _)

/-- Reset writes the wheel's channel from its own pins and keeps the model's own fields (70_reset_and_hazards.md R200). -/
theorem SameFor.resetTo {w : Wheel} {p q : Input} {s t : State} (h : SameFor w s t)
    (input : SameInputFor w p q) :
    SameFor w (s.resetTo p.encA0 p.encB0 p.encA1 p.encB1) (t.resetTo q.encA0 q.encB0 q.encA1 q.encB1) := by
  obtain ⟨-, -, -, -, rest⟩ := h
  have channel : Channel.reset (levelPins p w).1 (levelPins p w).2 =
      Channel.reset (levelPins q w).1 (levelPins q w).2 := by rw [input.levels]
  cases w <;> exact ⟨channel, rfl, rfl, rfl, rest⟩

/-- Phases 3 to 5 tick the wheel by its own pins and leave all else that it depends on. -/
theorem SameFor.cycleByPhases {w : Wheel} {p q : Input} {s t : State} (h : SameFor w s t)
    (input : SameInputFor w p q) : SameFor w (cycleByPhases p s) (cycleByPhases q t) := by
  cases hp : p.rst with
  | true =>
    have hq : q.rst = true := input.rst.symm.trans hp
    rw [Machine.cycleByPhases, Machine.cycleByPhases, if_pos hp, if_pos hq]
    exact h.resetTo input
  | false =>
    have hq : q.rst = false := input.rst.symm.trans hp
    obtain ⟨wheel, rest⟩ := (h.phaseEdges input).phaseBus input
    have ticked : (Machine.cycleByPhases p s).wheel w = (Machine.cycleByPhases q t).wheel w := by
      rw [cycleByPhases_wheel hp, cycleByPhases_wheel hq, wheel, input.stick, input.ctick]
    refine ⟨ticked, ?_⟩
    rw [Machine.cycleByPhases, Machine.cycleByPhases, hp, hq, if_neg Bool.false_ne_true, if_neg Bool.false_ne_true]
    cases w <;> exact rest

/-! Taking the input words, steps and runs. -/

/-- Taking the input word uses no draw (log 3, log 4). -/
@[simp] theorem State.draws_taken (s : State) (w : Wheel) : s.taken.draws w = s.draws w := by
  unfold State.taken
  split <;> cases w <;> rfl

/-- Related states have both no listed input word, or both a next one that is the same for the wheel (log 3). -/
theorem SameFor.inputs_cases {w : Wheel} {s t : State} (h : SameFor w s t) :
    (s.env.inputs = [] ∧ t.env.inputs = []) ∨
      ∃ i is j js, s.env.inputs = i :: is ∧ t.env.inputs = j :: js ∧
        i &&& ~~~ownPins (otherWheel w) = j &&& ~~~ownPins (otherWheel w) ∧
        is.map (· &&& ~~~ownPins (otherWheel w)) = js.map (· &&& ~~~ownPins (otherWheel w)) := by
  obtain ⟨-, -, -, -, -, -, inputs⟩ := h
  cases hs : s.env.inputs with
  | nil => exact .inl ⟨rfl, by simpa [hs] using inputs⟩
  | cons i is =>
    rw [hs, List.map_cons, eq_comm, List.map_eq_cons_iff] at inputs
    obtain ⟨j, js, ht, word, coming⟩ := inputs
    exact .inr ⟨i, is, j, js, rfl, ht, word.symm, coming.symm⟩

/-- Related states take words that are the same for the wheel: both listed, or the free one of the same index. -/
theorem SameFor.nextWord {w : Wheel} {s t : State} (h : SameFor w s t) :
    SameInputFor w (Input.ofWord s.nextWord) (Input.ofWord t.nextWord) := by
  apply sameInputFor_of_masked
  have ⟨_, _, _, _, _, cycle, _⟩ := h
  obtain ⟨hs, ht⟩ | ⟨i, is, j, js, hs, ht, word, -⟩ := h.inputs_cases
  · rw [s.nextWord_nil hs, t.nextWord_nil ht, cycle]
  · rw [s.nextWord_cons hs, t.nextWord_cons ht, word]

/-- Once the words have been taken, the states are still related. -/
theorem SameFor.taken {w : Wheel} {s t : State} (h : SameFor w s t) : SameFor w s.taken t.taken := by
  have ⟨wheel, lin, ang, track, draws, cycle, inputs⟩ := h
  refine ⟨by simpa using wheel, by simpa using lin, by simpa using ang, by simpa using track, by simpa using draws, ?_⟩
  obtain ⟨hs, ht⟩ | ⟨i, is, j, js, hs, ht, -, coming⟩ := h.inputs_cases
  · rw [s.taken_env_nil hs, t.taken_env_nil ht]
    exact ⟨congrArg (· + 1) cycle, inputs⟩
  · rw [s.taken_env_cons hs, t.taken_env_cons ht]
    exact ⟨cycle, coming⟩

theorem step_sameFor {w : Wheel} {s t s1 t1 : State} (h : SameFor w s t) (hs : step s = .next s1)
    (ht : step t = .next t1) : SameFor w s1 t1 := by
  obtain rfl := step_inv_phases rfl hs
  obtain rfl := step_inv_phases rfl ht
  exact h.taken.cycleByPhases h.nextWord

/-- Settles O52: each step keeps the relation. -/
theorem wheelsAreIndependent : Obligations.WheelsAreIndependent := by
  intro w n
  induction n with
  | zero => intro s t s1 t1 h hs ht; cases hs; cases ht; exact h
  | succ n ih =>
    intro s t s1 t1 h hs ht
    obtain ⟨sm, hsm, hs⟩ := run_succ_inv hs
    obtain ⟨tm, htm, ht⟩ := run_succ_inv ht
    exact ih sm tm s1 t1 (step_sameFor h hsm htm) hs ht

end Sys2Proof.Machine
end

section
/-! The hazard of `QRST` between two sample ticks (70_reset_and_hazards.md R214). -/

namespace Sys2Proof.Machine

open Sys2Proof

/-! The two samples after a zeroed count, on the channel. -/

/-- `PREV_COUNT` survives the zeroed count, so the next sample takes it for counts run backward. -/
theorem Channel.delta_zeroCount (c : Channel) : c.zeroCount.delta = wrap32 (-s32 c.prevCount) := by
  have zero : s32 c.zeroCount.count = 0 := s32_zero
  rw [Channel.delta, zero, Channel.zeroCount_prevCount, zero_sub]

/-- The false sample. -/
theorem Channel.sample_zeroCount_angVel (c : Channel) :
    c.zeroCount.sample.angVel = toReg (sat32 (shr (wrap32 (-s32 c.prevCount) * s32 c.kAng) 8)) := by
  rw [Channel.sample_angVel, Channel.sampledAng, c.delta_zeroCount, Channel.zeroCount_kAng]

/-- A sample straight after another one finds no counts. -/
theorem Channel.sample_sample_velocities (c : Channel) :
    c.sample.sample.angVel = 0 ∧ c.sample.sample.linVel = 0 := by
  have noCounts : c.sample.count = c.sample.prevCount + toReg 0 := (BitVec.add_zero c.count).symm
  obtain ⟨-, zero, -⟩ := Channel.sample_velocities (by norm_num) (by norm_num) noCounts
  exact zero (.inl rfl)

/-! The operations. -/

theorem exec_qrstOf (w : Wheel) (s : State) :
    exec (qrstOf w) s = .next (s.setWheel w (s.wheel w).zeroCount).quiet := by
  cases w <;> rfl

theorem exec_stickOf (w : Wheel) (s : State) :
    exec (stickOf w) s = .next (s.setWheel w (s.wheel w).sample) := by
  cases w <;> rfl

/-- `QRST` and then a sample tick: the tick finds the zeroed count. -/
theorem runOperations_qrstOf_stickOf (w : Wheel) (s : State) :
    ∃ t, runOperations [qrstOf w, stickOf w] s = .next t ∧ t.wheel w = (s.wheel w).zeroCount.sample := by
  have zeroed : (s.setWheel w (s.wheel w).zeroCount).quiet.wheel w = (s.wheel w).zeroCount := by
    rw [State.wheel_quiet, State.wheel_setWheel]
  refine ⟨(s.setWheel w (s.wheel w).zeroCount).quiet.setWheel w (s.wheel w).zeroCount.sample, ?_,
    State.wheel_setWheel _ w _⟩
  rw [runOperations_cons (exec_qrstOf w s), runOperations_cons (exec_stickOf w _), runOperations_nil, zeroed]

/-- The false sample and the right one after it, for either wheel. -/
theorem qrstOf_between_samples (w : Wheel) (s : State) :
    ∃ t u, runOperations [qrstOf w, stickOf w] s = .next t ∧ exec (stickOf w) t = .next u ∧
      (t.wheel w).angVel =
        toReg (sat32 (shr (wrap32 (-s32 (s.wheel w).prevCount) * s32 (s.wheel w).kAng) 8)) ∧
      (t.wheel w).prevCount = 0 ∧ (u.wheel w).angVel = 0 ∧ (u.wheel w).linVel = 0 := by
  obtain ⟨t, run, sampled⟩ := runOperations_qrstOf_stickOf w s
  refine ⟨t, t.setWheel w (t.wheel w).sample, run, exec_stickOf w t, ?_⟩
  rw [State.wheel_setWheel, sampled]
  exact ⟨(s.wheel w).sample_zeroCount_angVel, rfl, Channel.sample_sample_velocities _⟩

/-- Settles O22: on either wheel the tick after `QRST` measures `-PREV_COUNT` counts and the one after that none. -/
theorem qrstBetweenSamplesIsAFalseSample : Obligations.QrstBetweenSamplesIsAFalseSample :=
  fun s => ⟨qrstOf_between_samples .left s, qrstOf_between_samples .right s⟩

end Sys2Proof.Machine
end
